-- ==== Sys2Proof/Word.lean ====
section
/-! DEFINITION. The two word types of the machine (R6): 8-bit data and 16-bit addresses. -/

namespace Sys2Proof

/-- An 8-bit data value: a register, an opcode, an operand byte, a memory byte (R6). -/
abbrev Byte := BitVec 8

/-- A 16-bit address; all address arithmetic wraps modulo 65536 (R6, R180). -/
abbrev Addr := BitVec 16

end Sys2Proof
end

