-- ==== Sys2Proof/Config.lean ====
section
/-! DEFINITION. The implementation parameters of R7 and the memory provider of R62 as plain data, what an unlisted memory
address reads as, and the behaviour of an injected provider, which nothing constrains. -/

namespace Sys2Proof

/-- Which memory provider answers the bus: a model is parameterised by it (R62, U11). -/
inductive Provider where
  /-- The default memory provider (R63). -/
  | default
  /-- A provider that the platform injects instead, with devices or read-only memory; `n` names it (log entry 18). -/
  | injected (n : Nat)
deriving DecidableEq, Repr

/-- The parameters of R7, and the memory provider (R62).  They are fixed for one machine, but for `indirectBug`, which the host may
change between steps (R7, R383, D30).  A `State` carries them, so a statement about every state is a
statement about every value of them (log entry 3). -/
structure Config where
  /-- `INDIRECT_BUG`: `JMP (ind)` reproduces the page-wrap defect (R128). -/
  indirectBug    : Bool
  /-- `MEM_BASE`: the first address of the backed region (R63). -/
  memBase        : Nat
  /-- `MEM_SIZE`: the number of addresses of the backed region (R63). -/
  memSize        : Nat
  /-- `FILL`: what an address outside the backed region reads as (R63). -/
  fill           : Byte
  /-- `RESET_S`: what `Reset` writes to `S` (R350, D6). -/
  resetS         : Byte
  /-- `RESET_CLEARS_NMI`: whether `Reset` clears the NMI latch (R350, D8). -/
  resetClearsNmi : Bool
  /-- `KIL_CYCLES`: what a halted step costs (R324, D9). -/
  killCycles     : Nat
  /-- The memory provider (R62, U11). -/
  provider       : Provider
deriving DecidableEq, Repr

/-- The defaults of R7, with the default memory provider (R63). -/
def Config.default : Config where
  indirectBug    := true
  memBase        := 0
  memSize        := 65536
  fill           := 0xFF#8
  resetS         := 0xFF#8
  resetClearsNmi := false
  killCycles     := 2
  provider       := .default

/-- What a backed address that nothing has written reads as.  DESIGN CHOICE (log entry 1): the
contents of memory are the host's input (R63, R380, U12) and the spec names no value. -/
def unlistedByte : Byte := 0x00#8

/-- What the injected provider `n` in the state `p` answers to a read of `a`, and the state it is in afterwards.
FREE VALUE (log entry 18): the contract asks for some 8-bit value (R62), and a read may have an effect on the
provider (R65). -/
opaque injectedRead (n p : Nat) (a : Addr) : Byte × Nat

/-- The state of the injected provider `n` after a write of `v` to `a` in the state `p`.  FREE VALUE (log entry 18):
the contract asks only that the write returns (R62). -/
opaque injectedWrite (n p : Nat) (a : Addr) (v : Byte) : Nat

end Sys2Proof
end

