-- ==== Sys2Proof/Syntax.lean ====
section
/-! DEFINITION. The instruction set as syntax: the addressing modes (R93), the operand forms (R91, R92), the operation
selector (R338), the 256 instructions of the opcode table (R97), and an assembly-level instruction (R106). -/

namespace Sys2Proof

/-- The thirteen addressing modes, by the short names of R93. -/
inductive Mode where
  | imp | acc | imm | zp | zpx | zpy | abs | ind | izx | izy | abx | aby | rel
deriving DecidableEq, Repr

/-- The eight modes that name a byte of memory, each with its operand bytes assembled (R92). -/
inductive MemOperand where
  /-- Zero-page (R124). -/
  | zp  (z : Byte)
  /-- Zero-page,X (R125). -/
  | zpx (z : Byte)
  /-- Zero-page,Y (R126). -/
  | zpy (z : Byte)
  /-- Absolute (R127). -/
  | abs (w : Addr)
  /-- Indexed-indirect, `(zp,X)` (R129). -/
  | izx (z : Byte)
  /-- Indirect-indexed, `(zp),Y` (R130). -/
  | izy (z : Byte)
  /-- Absolute,X (R131). -/
  | abx (w : Addr)
  /-- Absolute,Y (R132). -/
  | aby (w : Addr)
deriving DecidableEq, Repr

/-- The operand of an instruction: its addressing mode with the operand bytes assembled (R91, R92). -/
inductive Operand where
  /-- A halt opcode: no addressing mode and no operand byte (R96, R298). -/
  | halt
  /-- Implied (R121). -/
  | imp
  /-- Accumulator (R122). -/
  | acc
  /-- Immediate (R123): `imm8`. -/
  | imm (v : Byte)
  /-- One of the eight modes that name a byte of memory. -/
  | mem (m : MemOperand)
  /-- Indirect (R128): the 16-bit pointer. -/
  | ind (p : Addr)
  /-- Relative (R133): `rel8`, a signed offset. -/
  | rel (r : Byte)
deriving DecidableEq, Repr

/-- The operation selector: its 72 values, in the order of R338. -/
inductive Operation where
  | lda | ldx | ldy | lax | sta | stx | sty | sax | shx | shy | tax | tay
  | txa | tya | tsx | txs | pha | php | pla | plp | adc | rra | sbc | isc
  | cmp | cpx | cpy | dcp | axs | and | ora | eor | rla | slo | sre | anc
  | alr | arr | xaa | bit | inc | dec | inx | iny | dex | dey | asl | lsr
  | rol | ror | jmp | jsr | rts | bpl | bmi | bvc | bvs | bcc | bcs | bne
  | beq | brk | rti | clc | sec | cli | sei | cld | sed | clv | nop | kil
deriving DecidableEq, Repr

/-- The instructions: one constructor for each of the 256 rows of the opcode table (R97), named by its
mnemonic and addressing mode, with the opcode value added where the table gives one operation and mode
to several opcodes.  The operand is an immediate `v`, a zero-page address `z`, a branch offset `r`, a
16-bit address `w` or a 16-bit pointer `p` (R92).  The instructions without operand bytes come last. -/
inductive Instr where
  -- 41_load_store_transfer_stack.md, instructions with operand bytes
  | ldaImm (v : Byte) | ldaZp (z : Byte) | ldaZpx (z : Byte) | ldaAbs (w : Addr)
  | ldaIzx (z : Byte) | ldaIzy (z : Byte) | ldaAbx (w : Addr) | ldaAby (w : Addr)
  | ldxImm (v : Byte) | ldxZp (z : Byte) | ldxZpy (z : Byte) | ldxAbs (w : Addr)
  | ldxAby (w : Addr)
  | ldyImm (v : Byte) | ldyZp (z : Byte) | ldyZpx (z : Byte) | ldyAbs (w : Addr)
  | ldyAbx (w : Addr)
  | staZp (z : Byte) | staZpx (z : Byte) | staAbs (w : Addr) | staIzx (z : Byte)
  | staIzy (z : Byte) | staAbx (w : Addr) | staAby (w : Addr)
  | stxZp (z : Byte) | stxZpy (z : Byte) | stxAbs (w : Addr)
  | styZp (z : Byte) | styZpx (z : Byte) | styAbs (w : Addr)
  -- 42_arithmetic_compare.md, instructions with operand bytes
  | adcImm (v : Byte) | adcZp (z : Byte) | adcZpx (z : Byte) | adcAbs (w : Addr)
  | adcIzx (z : Byte) | adcIzy (z : Byte) | adcAbx (w : Addr) | adcAby (w : Addr)
  | sbcImm (v : Byte) | sbcZp (z : Byte) | sbcZpx (z : Byte) | sbcAbs (w : Addr)
  | sbcIzx (z : Byte) | sbcIzy (z : Byte) | sbcAbx (w : Addr) | sbcAby (w : Addr)
  | cmpImm (v : Byte) | cmpZp (z : Byte) | cmpZpx (z : Byte) | cmpAbs (w : Addr)
  | cmpIzx (z : Byte) | cmpIzy (z : Byte) | cmpAbx (w : Addr) | cmpAby (w : Addr)
  | cpxImm (v : Byte) | cpxZp (z : Byte) | cpxAbs (w : Addr)
  | cpyImm (v : Byte) | cpyZp (z : Byte) | cpyAbs (w : Addr)
  -- 43_logic_bit_incdec.md, instructions with operand bytes
  | andImm (v : Byte) | andZp (z : Byte) | andZpx (z : Byte) | andAbs (w : Addr)
  | andIzx (z : Byte) | andIzy (z : Byte) | andAbx (w : Addr) | andAby (w : Addr)
  | oraImm (v : Byte) | oraZp (z : Byte) | oraZpx (z : Byte) | oraAbs (w : Addr)
  | oraIzx (z : Byte) | oraIzy (z : Byte) | oraAbx (w : Addr) | oraAby (w : Addr)
  | eorImm (v : Byte) | eorZp (z : Byte) | eorZpx (z : Byte) | eorAbs (w : Addr)
  | eorIzx (z : Byte) | eorIzy (z : Byte) | eorAbx (w : Addr) | eorAby (w : Addr)
  | bitZp (z : Byte) | bitAbs (w : Addr)
  | incZp (z : Byte) | incZpx (z : Byte) | incAbs (w : Addr) | incAbx (w : Addr)
  | decZp (z : Byte) | decZpx (z : Byte) | decAbs (w : Addr) | decAbx (w : Addr)
  -- 44_shift_rotate.md, instructions with operand bytes
  | aslZp (z : Byte) | aslZpx (z : Byte) | aslAbs (w : Addr) | aslAbx (w : Addr)
  | lsrZp (z : Byte) | lsrZpx (z : Byte) | lsrAbs (w : Addr) | lsrAbx (w : Addr)
  | rolZp (z : Byte) | rolZpx (z : Byte) | rolAbs (w : Addr) | rolAbx (w : Addr)
  | rorZp (z : Byte) | rorZpx (z : Byte) | rorAbs (w : Addr) | rorAbx (w : Addr)
  -- 45_control_flow.md, instructions with operand bytes
  | jmpAbs (w : Addr) | jmpInd (p : Addr)
  | jsr (w : Addr)
  | bpl (r : Byte)
  | bmi (r : Byte)
  | bvc (r : Byte)
  | bvs (r : Byte)
  | bcc (r : Byte)
  | bcs (r : Byte)
  | bne (r : Byte)
  | beq (r : Byte)
  -- 47_undocumented.md, instructions with operand bytes
  | laxZp (z : Byte) | laxZpy (z : Byte) | laxAbs (w : Addr) | laxIzx (z : Byte)
  | laxIzy (z : Byte) | laxAby (w : Addr)
  | saxZp (z : Byte) | saxZpy (z : Byte) | saxAbs (w : Addr) | saxIzx (z : Byte)
  | sloZp (z : Byte) | sloZpx (z : Byte) | sloAbs (w : Addr) | sloIzx (z : Byte)
  | sloIzy (z : Byte) | sloAbx (w : Addr) | sloAby (w : Addr)
  | rlaZp (z : Byte) | rlaZpx (z : Byte) | rlaAbs (w : Addr) | rlaIzx (z : Byte)
  | rlaIzy (z : Byte) | rlaAbx (w : Addr) | rlaAby (w : Addr)
  | sreZp (z : Byte) | sreZpx (z : Byte) | sreAbs (w : Addr) | sreIzx (z : Byte)
  | sreIzy (z : Byte) | sreAbx (w : Addr) | sreAby (w : Addr)
  | rraZp (z : Byte) | rraZpx (z : Byte) | rraAbs (w : Addr) | rraIzx (z : Byte)
  | rraIzy (z : Byte) | rraAbx (w : Addr) | rraAby (w : Addr)
  | dcpZp (z : Byte) | dcpZpx (z : Byte) | dcpAbs (w : Addr) | dcpIzx (z : Byte)
  | dcpIzy (z : Byte) | dcpAbx (w : Addr) | dcpAby (w : Addr)
  | iscZp (z : Byte) | iscZpx (z : Byte) | iscAbs (w : Addr) | iscIzx (z : Byte)
  | iscIzy (z : Byte) | iscAbx (w : Addr) | iscAby (w : Addr)
  | ancImm0B (v : Byte) | ancImm2B (v : Byte)
  | alrImm (v : Byte)
  | arrImm (v : Byte)
  | xaaImm (v : Byte)
  | axsImm (v : Byte)
  | shxAby (w : Addr)
  | shyAbx (w : Addr)
  | nopImm80 (v : Byte) | nopImm82 (v : Byte) | nopImm89 (v : Byte) | nopImmC2 (v : Byte)
  | nopImmE2 (v : Byte) | nopZp04 (z : Byte) | nopZp44 (z : Byte) | nopZp64 (z : Byte)
  | nopZpx14 (z : Byte) | nopZpx34 (z : Byte) | nopZpx54 (z : Byte) | nopZpx74 (z : Byte)
  | nopZpxD4 (z : Byte) | nopZpxF4 (z : Byte) | nopAbs0C (w : Addr) | nopAbx1C (w : Addr)
  | nopAbx3C (w : Addr) | nopAbx5C (w : Addr) | nopAbx7C (w : Addr) | nopAbxDC (w : Addr)
  | nopAbxFC (w : Addr)
  | sbcImmEB (v : Byte)
  -- 41_load_store_transfer_stack.md, instructions of one byte
  | tax | tay | txa | tya | tsx | txs | pha | php | pla | plp
  -- 43_logic_bit_incdec.md, instructions of one byte
  | inx | iny | dex | dey
  -- 44_shift_rotate.md, instructions of one byte
  | aslAcc | lsrAcc | rolAcc | rorAcc
  -- 45_control_flow.md, instructions of one byte
  | rts
  -- 46_flags_nop.md, instructions of one byte
  | clc | sec | cli | sei | cld | sed | clv | nop
  -- 47_undocumented.md, instructions of one byte
  | nopImp1A | nopImp3A | nopImp5A | nopImp7A | nopImpDA | nopImpFA | kil02 | kil12 | kil22 | kil32
  | kil42 | kil52 | kil62 | kil72 | kil92 | kil93 | kil9B | kil9F | kilAB | kilB2
  | kilBB | kilD2 | kilF2
  -- 60_exceptions.md, instructions of one byte
  | brk | rti
deriving DecidableEq, Repr

/-- An instruction as an assembler takes it: any operation with any operand.  Not every pair exists (R137). -/
structure AsmInstr where
  operation : Operation
  operand   : Operand
deriving DecidableEq, Repr

end Sys2Proof
end

