-- ==== Sys2Proof/WellFormed.lean ====
section
/-! DEFINITION. The checks on data that the spec limits: which (operation, addressing mode) pairs exist (R137, from
the list of R100) and the ranges of the parameters (R7, D9).  The operand fields of `Instr` have exactly the widths
that the encoding gives them (R91), so a term of `Instr` has nothing more to check; `Instr.wellFormed` (Decode.lean)
asks that its pair exists. -/

namespace Sys2Proof

/-- The addressing mode of a memory operand (R93). -/
def MemOperand.mode : MemOperand → Mode
  | .zp _ => .zp
  | .zpx _ => .zpx
  | .zpy _ => .zpy
  | .abs _ => .abs
  | .izx _ => .izx
  | .izy _ => .izy
  | .abx _ => .abx
  | .aby _ => .aby

/-- The addressing mode of an operand (R93); a halt opcode has none (R96). -/
def Operand.mode : Operand → Option Mode
  | .halt  => none
  | .imp   => some .imp
  | .acc   => some .acc
  | .imm _ => some .imm
  | .mem m => some m.mode
  | .ind _ => some .ind
  | .rel _ => some .rel

/-- The addressing modes that R100 lists for each operation, in the order it lists them. -/
def Operation.modes : Operation → List Mode
  | .adc | .and | .cmp | .eor | .lda | .ora | .sbc => [.imm, .zp, .zpx, .abs, .abx, .aby, .izx, .izy]
  | .asl | .lsr | .rol | .ror => [.acc, .zp, .zpx, .abs, .abx]
  | .bcc | .bcs | .beq | .bmi | .bne | .bpl | .bvc | .bvs => [.rel]
  | .bit => [.zp, .abs]
  | .brk | .rti | .rts => [.imp]
  | .clc | .cld | .cli | .clv | .sec | .sed | .sei => [.imp]
  | .cpx | .cpy => [.imm, .zp, .abs]
  | .dec | .inc => [.zp, .zpx, .abs, .abx]
  | .dex | .dey | .inx | .iny => [.imp]
  | .jmp => [.abs, .ind]
  | .jsr => [.abs]
  | .ldx => [.imm, .zp, .zpy, .abs, .aby]
  | .ldy => [.imm, .zp, .zpx, .abs, .abx]
  | .nop => [.imp, .imm, .zp, .zpx, .abs, .abx]
  | .pha | .php | .pla | .plp => [.imp]
  | .sta => [.zp, .zpx, .abs, .abx, .aby, .izx, .izy]
  | .stx => [.zp, .zpy, .abs]
  | .sty => [.zp, .zpx, .abs]
  | .tax | .tay | .txa | .tya | .tsx | .txs => [.imp]
  | .lax => [.zp, .zpy, .abs, .aby, .izx, .izy]
  | .sax => [.zp, .zpy, .abs, .izx]
  | .slo | .rla | .sre | .rra | .dcp | .isc => [.zp, .zpx, .abs, .abx, .aby, .izx, .izy]
  | .anc | .alr | .arr | .xaa | .axs => [.imm]
  | .shx => [.aby]
  | .shy => [.abx]
  | .kil => []

/-- R137: the pair of operation and addressing mode exists.  A halt opcode has no mode. -/
def AsmInstr.wellFormed (a : AsmInstr) : Bool :=
  match a.operand.mode with
  | some m => a.operation.modes.contains m
  | none   => a.operation == .kil

/-- The parameters lie in the ranges of R7: `MEM_BASE` is 16 bits wide, `MEM_SIZE` is at most 65536, and
`KIL_CYCLES` is at least 1 (R336, D9). -/
def Config.wellFormed (c : Config) : Bool :=
  decide (c.memBase < 65536) && decide (c.memSize ≤ 65536) && decide (1 ≤ c.killCycles)

end Sys2Proof
end

