-- ==== Sys2Proof/Decode.lean ====
section
/-! DEFINITION. The dispatch table (R96 to R99), the decoder and the encoder (R90 to R92), the host's reading of a table
word, and the assembler's notation (R104, R106). -/

namespace Sys2Proof

/-! ## Bytes and words -/

/-- The 16-bit value `{hi, lo}`, that is `hi*256 + lo` (R9). -/
def wordOf (hi lo : Byte) : Addr := BitVec.ofNat 16 (hi.toNat * 256 + lo.toNat)

/-- Bits 7 to 0 of a 16-bit value. -/
def lowByte (w : Addr) : Byte := BitVec.ofNat 8 w.toNat

/-- Bits 15 to 8 of a 16-bit value. -/
def highByte (w : Addr) : Byte := BitVec.ofNat 8 (w.toNat / 256)

/-- The row of the opcode matrix an opcode stands in: its high nibble (R97). -/
def matrixRow (op : Byte) : Fin 16 := ⟨op.toNat / 16, by have := op.isLt; omega⟩

/-- The column of the opcode matrix an opcode stands in: its low nibble (R97). -/
def matrixColumn (op : Byte) : Fin 16 := ⟨op.toNat % 16, by omega⟩

/-! ## The dispatch table -/

/-- A base cycle cost: a number of the table of R98, or `KIL_CYCLES` for a halt opcode. -/
inductive BaseCost where
  | fixed (n : Nat)
  | killCycles
deriving DecidableEq, Repr

/-- An entry of the dispatch table, R96: `(operation, addressing mode, base cycles, page-cross eligible)`.
A halt opcode has no addressing mode. -/
structure Entry where
  operation : Operation
  mode      : Option Mode
  base      : BaseCost
  eligible  : Bool
deriving DecidableEq, Repr

/-- An entry that is not page-cross eligible. -/
def entryOf (operation : Operation) (mode : Mode) (base : Nat) : Entry :=
  ⟨operation, some mode, .fixed base, false⟩

/-- A page-cross eligible entry: the mark `+` of R98, the set of R99. -/
def entryPlus (operation : Operation) (mode : Mode) (base : Nat) : Entry :=
  ⟨operation, some mode, .fixed base, true⟩

/-- A halt opcode's entry (R101, R102). -/
def entryKil : Entry := ⟨.kil, none, .killCycles, false⟩

/-- Row `0x` of the matrices of R97 and R98. -/
def entryRow0 : Vector Entry 16 := #v[
  entryOf .brk .imp 7,
  entryOf .ora .izx 6,
  entryKil,
  entryOf .slo .izx 8,
  entryOf .nop .zp 3,
  entryOf .ora .zp 3,
  entryOf .asl .zp 5,
  entryOf .slo .zp 5,
  entryOf .php .imp 3,
  entryOf .ora .imm 2,
  entryOf .asl .acc 2,
  entryOf .anc .imm 2,
  entryOf .nop .abs 4,
  entryOf .ora .abs 4,
  entryOf .asl .abs 6,
  entryOf .slo .abs 6]

/-- Row `1x` of the matrices of R97 and R98. -/
def entryRow1 : Vector Entry 16 := #v[
  entryOf .bpl .rel 2,
  entryPlus .ora .izy 5,
  entryKil,
  entryOf .slo .izy 8,
  entryOf .nop .zpx 4,
  entryOf .ora .zpx 4,
  entryOf .asl .zpx 6,
  entryOf .slo .zpx 6,
  entryOf .clc .imp 2,
  entryPlus .ora .aby 4,
  entryOf .nop .imp 2,
  entryOf .slo .aby 7,
  entryPlus .nop .abx 4,
  entryPlus .ora .abx 4,
  entryOf .asl .abx 7,
  entryOf .slo .abx 7]

/-- Row `2x` of the matrices of R97 and R98. -/
def entryRow2 : Vector Entry 16 := #v[
  entryOf .jsr .abs 6,
  entryOf .and .izx 6,
  entryKil,
  entryOf .rla .izx 8,
  entryOf .bit .zp 3,
  entryOf .and .zp 3,
  entryOf .rol .zp 5,
  entryOf .rla .zp 5,
  entryOf .plp .imp 4,
  entryOf .and .imm 2,
  entryOf .rol .acc 2,
  entryOf .anc .imm 2,
  entryOf .bit .abs 4,
  entryOf .and .abs 4,
  entryOf .rol .abs 6,
  entryOf .rla .abs 6]

/-- Row `3x` of the matrices of R97 and R98. -/
def entryRow3 : Vector Entry 16 := #v[
  entryOf .bmi .rel 2,
  entryPlus .and .izy 5,
  entryKil,
  entryOf .rla .izy 8,
  entryOf .nop .zpx 4,
  entryOf .and .zpx 4,
  entryOf .rol .zpx 6,
  entryOf .rla .zpx 6,
  entryOf .sec .imp 2,
  entryPlus .and .aby 4,
  entryOf .nop .imp 2,
  entryOf .rla .aby 7,
  entryPlus .nop .abx 4,
  entryPlus .and .abx 4,
  entryOf .rol .abx 7,
  entryOf .rla .abx 7]

/-- Row `4x` of the matrices of R97 and R98. -/
def entryRow4 : Vector Entry 16 := #v[
  entryOf .rti .imp 6,
  entryOf .eor .izx 6,
  entryKil,
  entryOf .sre .izx 8,
  entryOf .nop .zp 3,
  entryOf .eor .zp 3,
  entryOf .lsr .zp 5,
  entryOf .sre .zp 5,
  entryOf .pha .imp 3,
  entryOf .eor .imm 2,
  entryOf .lsr .acc 2,
  entryOf .alr .imm 2,
  entryOf .jmp .abs 3,
  entryOf .eor .abs 4,
  entryOf .lsr .abs 6,
  entryOf .sre .abs 6]

/-- Row `5x` of the matrices of R97 and R98. -/
def entryRow5 : Vector Entry 16 := #v[
  entryOf .bvc .rel 2,
  entryPlus .eor .izy 5,
  entryKil,
  entryOf .sre .izy 8,
  entryOf .nop .zpx 4,
  entryOf .eor .zpx 4,
  entryOf .lsr .zpx 6,
  entryOf .sre .zpx 6,
  entryOf .cli .imp 2,
  entryPlus .eor .aby 4,
  entryOf .nop .imp 2,
  entryOf .sre .aby 7,
  entryPlus .nop .abx 4,
  entryPlus .eor .abx 4,
  entryOf .lsr .abx 7,
  entryOf .sre .abx 7]

/-- Row `6x` of the matrices of R97 and R98. -/
def entryRow6 : Vector Entry 16 := #v[
  entryOf .rts .imp 6,
  entryOf .adc .izx 6,
  entryKil,
  entryOf .rra .izx 8,
  entryOf .nop .zp 3,
  entryOf .adc .zp 3,
  entryOf .ror .zp 5,
  entryOf .rra .zp 5,
  entryOf .pla .imp 4,
  entryOf .adc .imm 2,
  entryOf .ror .acc 2,
  entryOf .arr .imm 2,
  entryOf .jmp .ind 5,
  entryOf .adc .abs 4,
  entryOf .ror .abs 6,
  entryOf .rra .abs 6]

/-- Row `7x` of the matrices of R97 and R98. -/
def entryRow7 : Vector Entry 16 := #v[
  entryOf .bvs .rel 2,
  entryPlus .adc .izy 5,
  entryKil,
  entryOf .rra .izy 8,
  entryOf .nop .zpx 4,
  entryOf .adc .zpx 4,
  entryOf .ror .zpx 6,
  entryOf .rra .zpx 6,
  entryOf .sei .imp 2,
  entryPlus .adc .aby 4,
  entryOf .nop .imp 2,
  entryOf .rra .aby 7,
  entryPlus .nop .abx 4,
  entryPlus .adc .abx 4,
  entryOf .ror .abx 7,
  entryOf .rra .abx 7]

/-- Row `8x` of the matrices of R97 and R98. -/
def entryRow8 : Vector Entry 16 := #v[
  entryOf .nop .imm 2,
  entryOf .sta .izx 6,
  entryOf .nop .imm 2,
  entryOf .sax .izx 6,
  entryOf .sty .zp 3,
  entryOf .sta .zp 3,
  entryOf .stx .zp 3,
  entryOf .sax .zp 3,
  entryOf .dey .imp 2,
  entryOf .nop .imm 2,
  entryOf .txa .imp 2,
  entryOf .xaa .imm 2,
  entryOf .sty .abs 4,
  entryOf .sta .abs 4,
  entryOf .stx .abs 4,
  entryOf .sax .abs 4]

/-- Row `9x` of the matrices of R97 and R98. -/
def entryRow9 : Vector Entry 16 := #v[
  entryOf .bcc .rel 2,
  entryOf .sta .izy 6,
  entryKil,
  entryKil,
  entryOf .sty .zpx 4,
  entryOf .sta .zpx 4,
  entryOf .stx .zpy 4,
  entryOf .sax .zpy 4,
  entryOf .tya .imp 2,
  entryOf .sta .aby 5,
  entryOf .txs .imp 2,
  entryKil,
  entryOf .shy .abx 5,
  entryOf .sta .abx 5,
  entryOf .shx .aby 5,
  entryKil]

/-- Row `Ax` of the matrices of R97 and R98. -/
def entryRowA : Vector Entry 16 := #v[
  entryOf .ldy .imm 2,
  entryOf .lda .izx 6,
  entryOf .ldx .imm 2,
  entryOf .lax .izx 6,
  entryOf .ldy .zp 3,
  entryOf .lda .zp 3,
  entryOf .ldx .zp 3,
  entryOf .lax .zp 3,
  entryOf .tay .imp 2,
  entryOf .lda .imm 2,
  entryOf .tax .imp 2,
  entryKil,
  entryOf .ldy .abs 4,
  entryOf .lda .abs 4,
  entryOf .ldx .abs 4,
  entryOf .lax .abs 4]

/-- Row `Bx` of the matrices of R97 and R98. -/
def entryRowB : Vector Entry 16 := #v[
  entryOf .bcs .rel 2,
  entryPlus .lda .izy 5,
  entryKil,
  entryPlus .lax .izy 5,
  entryOf .ldy .zpx 4,
  entryOf .lda .zpx 4,
  entryOf .ldx .zpy 4,
  entryOf .lax .zpy 4,
  entryOf .clv .imp 2,
  entryPlus .lda .aby 4,
  entryOf .tsx .imp 2,
  entryKil,
  entryPlus .ldy .abx 4,
  entryPlus .lda .abx 4,
  entryPlus .ldx .aby 4,
  entryPlus .lax .aby 4]

/-- Row `Cx` of the matrices of R97 and R98. -/
def entryRowC : Vector Entry 16 := #v[
  entryOf .cpy .imm 2,
  entryOf .cmp .izx 6,
  entryOf .nop .imm 2,
  entryOf .dcp .izx 8,
  entryOf .cpy .zp 3,
  entryOf .cmp .zp 3,
  entryOf .dec .zp 5,
  entryOf .dcp .zp 5,
  entryOf .iny .imp 2,
  entryOf .cmp .imm 2,
  entryOf .dex .imp 2,
  entryOf .axs .imm 2,
  entryOf .cpy .abs 4,
  entryOf .cmp .abs 4,
  entryOf .dec .abs 6,
  entryOf .dcp .abs 6]

/-- Row `Dx` of the matrices of R97 and R98. -/
def entryRowD : Vector Entry 16 := #v[
  entryOf .bne .rel 2,
  entryPlus .cmp .izy 5,
  entryKil,
  entryOf .dcp .izy 8,
  entryOf .nop .zpx 4,
  entryOf .cmp .zpx 4,
  entryOf .dec .zpx 6,
  entryOf .dcp .zpx 6,
  entryOf .cld .imp 2,
  entryPlus .cmp .aby 4,
  entryOf .nop .imp 2,
  entryOf .dcp .aby 7,
  entryPlus .nop .abx 4,
  entryPlus .cmp .abx 4,
  entryOf .dec .abx 7,
  entryOf .dcp .abx 7]

/-- Row `Ex` of the matrices of R97 and R98. -/
def entryRowE : Vector Entry 16 := #v[
  entryOf .cpx .imm 2,
  entryOf .sbc .izx 6,
  entryOf .nop .imm 2,
  entryOf .isc .izx 8,
  entryOf .cpx .zp 3,
  entryOf .sbc .zp 3,
  entryOf .inc .zp 5,
  entryOf .isc .zp 5,
  entryOf .inx .imp 2,
  entryOf .sbc .imm 2,
  entryOf .nop .imp 2,
  entryOf .sbc .imm 2,
  entryOf .cpx .abs 4,
  entryOf .sbc .abs 4,
  entryOf .inc .abs 6,
  entryOf .isc .abs 6]

/-- Row `Fx` of the matrices of R97 and R98. -/
def entryRowF : Vector Entry 16 := #v[
  entryOf .beq .rel 2,
  entryPlus .sbc .izy 5,
  entryKil,
  entryOf .isc .izy 8,
  entryOf .nop .zpx 4,
  entryOf .sbc .zpx 4,
  entryOf .inc .zpx 6,
  entryOf .isc .zpx 6,
  entryOf .sed .imp 2,
  entryPlus .sbc .aby 4,
  entryOf .nop .imp 2,
  entryOf .isc .aby 7,
  entryPlus .nop .abx 4,
  entryPlus .sbc .abx 4,
  entryOf .inc .abx 7,
  entryOf .isc .abx 7]

/-- The dispatch table, row by row (R96). -/
def dispatchTable : Vector (Vector Entry 16) 16 := #v[
  entryRow0, entryRow1, entryRow2, entryRow3, entryRow4, entryRow5, entryRow6, entryRow7,
  entryRow8, entryRow9, entryRowA, entryRowB, entryRowC, entryRowD, entryRowE, entryRowF]

/-- The entry of an opcode (R96, R323).  The lookup is total. -/
def dispatchEntry (op : Byte) : Entry := dispatchTable[matrixRow op][matrixColumn op]

/-- How many operand bytes an addressing mode has (R90). -/
def Mode.operandBytes : Mode → Nat
  | .imp | .acc => 0
  | .imm | .zp | .zpx | .zpy | .izx | .izy | .rel => 1
  | .abs | .abx | .aby | .ind => 2

/-- How many operand bytes follow an opcode (R90); none follows a halt opcode (R324). -/
def operandCount (op : Byte) : Nat :=
  match (dispatchEntry op).mode with
  | some m => m.operandBytes
  | none   => 0

/-! ## Decoding -/

/-- The instructions of row `0x` of R97, from operand byte 1 `b` and the 16-bit operand `w` (R92). -/
def instrRow0 (b : Byte) (w : Addr) : Vector Instr 16 := #v[
  .brk, .oraIzx b, .kil02, .sloIzx b,
  .nopZp04 b, .oraZp b, .aslZp b, .sloZp b,
  .php, .oraImm b, .aslAcc, .ancImm0B b,
  .nopAbs0C w, .oraAbs w, .aslAbs w, .sloAbs w]

/-- The instructions of row `1x` of R97, from operand byte 1 `b` and the 16-bit operand `w` (R92). -/
def instrRow1 (b : Byte) (w : Addr) : Vector Instr 16 := #v[
  .bpl b, .oraIzy b, .kil12, .sloIzy b,
  .nopZpx14 b, .oraZpx b, .aslZpx b, .sloZpx b,
  .clc, .oraAby w, .nopImp1A, .sloAby w,
  .nopAbx1C w, .oraAbx w, .aslAbx w, .sloAbx w]

/-- The instructions of row `2x` of R97, from operand byte 1 `b` and the 16-bit operand `w` (R92). -/
def instrRow2 (b : Byte) (w : Addr) : Vector Instr 16 := #v[
  .jsr w, .andIzx b, .kil22, .rlaIzx b,
  .bitZp b, .andZp b, .rolZp b, .rlaZp b,
  .plp, .andImm b, .rolAcc, .ancImm2B b,
  .bitAbs w, .andAbs w, .rolAbs w, .rlaAbs w]

/-- The instructions of row `3x` of R97, from operand byte 1 `b` and the 16-bit operand `w` (R92). -/
def instrRow3 (b : Byte) (w : Addr) : Vector Instr 16 := #v[
  .bmi b, .andIzy b, .kil32, .rlaIzy b,
  .nopZpx34 b, .andZpx b, .rolZpx b, .rlaZpx b,
  .sec, .andAby w, .nopImp3A, .rlaAby w,
  .nopAbx3C w, .andAbx w, .rolAbx w, .rlaAbx w]

/-- The instructions of row `4x` of R97, from operand byte 1 `b` and the 16-bit operand `w` (R92). -/
def instrRow4 (b : Byte) (w : Addr) : Vector Instr 16 := #v[
  .rti, .eorIzx b, .kil42, .sreIzx b,
  .nopZp44 b, .eorZp b, .lsrZp b, .sreZp b,
  .pha, .eorImm b, .lsrAcc, .alrImm b,
  .jmpAbs w, .eorAbs w, .lsrAbs w, .sreAbs w]

/-- The instructions of row `5x` of R97, from operand byte 1 `b` and the 16-bit operand `w` (R92). -/
def instrRow5 (b : Byte) (w : Addr) : Vector Instr 16 := #v[
  .bvc b, .eorIzy b, .kil52, .sreIzy b,
  .nopZpx54 b, .eorZpx b, .lsrZpx b, .sreZpx b,
  .cli, .eorAby w, .nopImp5A, .sreAby w,
  .nopAbx5C w, .eorAbx w, .lsrAbx w, .sreAbx w]

/-- The instructions of row `6x` of R97, from operand byte 1 `b` and the 16-bit operand `w` (R92). -/
def instrRow6 (b : Byte) (w : Addr) : Vector Instr 16 := #v[
  .rts, .adcIzx b, .kil62, .rraIzx b,
  .nopZp64 b, .adcZp b, .rorZp b, .rraZp b,
  .pla, .adcImm b, .rorAcc, .arrImm b,
  .jmpInd w, .adcAbs w, .rorAbs w, .rraAbs w]

/-- The instructions of row `7x` of R97, from operand byte 1 `b` and the 16-bit operand `w` (R92). -/
def instrRow7 (b : Byte) (w : Addr) : Vector Instr 16 := #v[
  .bvs b, .adcIzy b, .kil72, .rraIzy b,
  .nopZpx74 b, .adcZpx b, .rorZpx b, .rraZpx b,
  .sei, .adcAby w, .nopImp7A, .rraAby w,
  .nopAbx7C w, .adcAbx w, .rorAbx w, .rraAbx w]

/-- The instructions of row `8x` of R97, from operand byte 1 `b` and the 16-bit operand `w` (R92). -/
def instrRow8 (b : Byte) (w : Addr) : Vector Instr 16 := #v[
  .nopImm80 b, .staIzx b, .nopImm82 b, .saxIzx b,
  .styZp b, .staZp b, .stxZp b, .saxZp b,
  .dey, .nopImm89 b, .txa, .xaaImm b,
  .styAbs w, .staAbs w, .stxAbs w, .saxAbs w]

/-- The instructions of row `9x` of R97, from operand byte 1 `b` and the 16-bit operand `w` (R92). -/
def instrRow9 (b : Byte) (w : Addr) : Vector Instr 16 := #v[
  .bcc b, .staIzy b, .kil92, .kil93,
  .styZpx b, .staZpx b, .stxZpy b, .saxZpy b,
  .tya, .staAby w, .txs, .kil9B,
  .shyAbx w, .staAbx w, .shxAby w, .kil9F]

/-- The instructions of row `Ax` of R97, from operand byte 1 `b` and the 16-bit operand `w` (R92). -/
def instrRowA (b : Byte) (w : Addr) : Vector Instr 16 := #v[
  .ldyImm b, .ldaIzx b, .ldxImm b, .laxIzx b,
  .ldyZp b, .ldaZp b, .ldxZp b, .laxZp b,
  .tay, .ldaImm b, .tax, .kilAB,
  .ldyAbs w, .ldaAbs w, .ldxAbs w, .laxAbs w]

/-- The instructions of row `Bx` of R97, from operand byte 1 `b` and the 16-bit operand `w` (R92). -/
def instrRowB (b : Byte) (w : Addr) : Vector Instr 16 := #v[
  .bcs b, .ldaIzy b, .kilB2, .laxIzy b,
  .ldyZpx b, .ldaZpx b, .ldxZpy b, .laxZpy b,
  .clv, .ldaAby w, .tsx, .kilBB,
  .ldyAbx w, .ldaAbx w, .ldxAby w, .laxAby w]

/-- The instructions of row `Cx` of R97, from operand byte 1 `b` and the 16-bit operand `w` (R92). -/
def instrRowC (b : Byte) (w : Addr) : Vector Instr 16 := #v[
  .cpyImm b, .cmpIzx b, .nopImmC2 b, .dcpIzx b,
  .cpyZp b, .cmpZp b, .decZp b, .dcpZp b,
  .iny, .cmpImm b, .dex, .axsImm b,
  .cpyAbs w, .cmpAbs w, .decAbs w, .dcpAbs w]

/-- The instructions of row `Dx` of R97, from operand byte 1 `b` and the 16-bit operand `w` (R92). -/
def instrRowD (b : Byte) (w : Addr) : Vector Instr 16 := #v[
  .bne b, .cmpIzy b, .kilD2, .dcpIzy b,
  .nopZpxD4 b, .cmpZpx b, .decZpx b, .dcpZpx b,
  .cld, .cmpAby w, .nopImpDA, .dcpAby w,
  .nopAbxDC w, .cmpAbx w, .decAbx w, .dcpAbx w]

/-- The instructions of row `Ex` of R97, from operand byte 1 `b` and the 16-bit operand `w` (R92). -/
def instrRowE (b : Byte) (w : Addr) : Vector Instr 16 := #v[
  .cpxImm b, .sbcIzx b, .nopImmE2 b, .iscIzx b,
  .cpxZp b, .sbcZp b, .incZp b, .iscZp b,
  .inx, .sbcImm b, .nop, .sbcImmEB b,
  .cpxAbs w, .sbcAbs w, .incAbs w, .iscAbs w]

/-- The instructions of row `Fx` of R97, from operand byte 1 `b` and the 16-bit operand `w` (R92). -/
def instrRowF (b : Byte) (w : Addr) : Vector Instr 16 := #v[
  .beq b, .sbcIzy b, .kilF2, .iscIzy b,
  .nopZpxF4 b, .sbcZpx b, .incZpx b, .iscZpx b,
  .sed, .sbcAby w, .nopImpFA, .iscAby w,
  .nopAbxFC w, .sbcAbx w, .incAbx w, .iscAbx w]

/-- The opcode matrix of R97, row by row, its operands filled in. -/
def instrTable (b : Byte) (w : Addr) : Vector (Vector Instr 16) 16 := #v[
  instrRow0 b w, instrRow1 b w, instrRow2 b w, instrRow3 b w, instrRow4 b w, instrRow5 b w,
  instrRow6 b w, instrRow7 b w, instrRow8 b w, instrRow9 b w, instrRowA b w, instrRowB b w,
  instrRowC b w, instrRowD b w, instrRowE b w, instrRowF b w]

/-- The instruction with opcode `op` and operand bytes `b1`, `b2`; a short format ignores the bytes it
does not have (R91, R92: `abs16 = {b2, b1}`). -/
def instrOf (op b1 b2 : Byte) : Instr :=
  (instrTable b1 (wordOf b2 b1))[matrixRow op][matrixColumn op]

/-- Why a list of bytes is not decoded.  Every opcode has an instruction (R96, R105), so only missing bytes
are refused. -/
inductive DecodeError where
  /-- There is no byte: no opcode. -/
  | noOpcode
  /-- The operand bytes that the opcode asks for are not all there (R90). -/
  | missingOperand (op : Byte)
deriving DecidableEq, Repr

/-- What the decoder answers: an instruction and the bytes after it, or why there is none. -/
inductive Decoded where
  | instr (i : Instr) (rest : List Byte)
  | error (e : DecodeError)
deriving DecidableEq, Repr

/-- The decoder, on the bytes at consecutive addresses (R90, R91). -/
def decode : List Byte → Decoded
  | [] => .error .noOpcode
  | op :: rest =>
    match operandCount op, rest with
    | 0, rest           => .instr (instrOf op 0 0) rest
    | 1, b1 :: rest     => .instr (instrOf op b1 0) rest
    | 2, b1 :: b2 :: rest => .instr (instrOf op b1 b2) rest
    | _, _              => .error (.missingOperand op)

/-! ## Encoding -/

/-- The operand bytes of a memory operand, in memory order (R91). -/
def MemOperand.bytes : MemOperand → List Byte
  | .zp z | .zpx z | .zpy z | .izx z | .izy z => [z]
  | .abs w | .abx w | .aby w => [lowByte w, highByte w]

/-- The operand bytes of an operand, in memory order (R91). -/
def Operand.bytes : Operand → List Byte
  | .halt | .imp | .acc => []
  | .imm v => [v]
  | .rel r => [r]
  | .ind p => [lowByte p, highByte p]
  | .mem m => m.bytes

/-- What an instruction is made of: its opcode byte (R91), its operation (R338) and its operand (R92). -/
structure InstrParts where
  opcode    : Byte
  operation : Operation
  operand   : Operand
deriving DecidableEq, Repr

/-- The opcode, the operation and the operand of every instruction (R97, R100). -/
def Instr.parts : Instr → InstrParts
  | .ldaImm v => ⟨0xA9, .lda, .imm v⟩
  | .ldaZp z => ⟨0xA5, .lda, .mem (.zp z)⟩
  | .ldaZpx z => ⟨0xB5, .lda, .mem (.zpx z)⟩
  | .ldaAbs w => ⟨0xAD, .lda, .mem (.abs w)⟩
  | .ldaIzx z => ⟨0xA1, .lda, .mem (.izx z)⟩
  | .ldaIzy z => ⟨0xB1, .lda, .mem (.izy z)⟩
  | .ldaAbx w => ⟨0xBD, .lda, .mem (.abx w)⟩
  | .ldaAby w => ⟨0xB9, .lda, .mem (.aby w)⟩
  | .ldxImm v => ⟨0xA2, .ldx, .imm v⟩
  | .ldxZp z => ⟨0xA6, .ldx, .mem (.zp z)⟩
  | .ldxZpy z => ⟨0xB6, .ldx, .mem (.zpy z)⟩
  | .ldxAbs w => ⟨0xAE, .ldx, .mem (.abs w)⟩
  | .ldxAby w => ⟨0xBE, .ldx, .mem (.aby w)⟩
  | .ldyImm v => ⟨0xA0, .ldy, .imm v⟩
  | .ldyZp z => ⟨0xA4, .ldy, .mem (.zp z)⟩
  | .ldyZpx z => ⟨0xB4, .ldy, .mem (.zpx z)⟩
  | .ldyAbs w => ⟨0xAC, .ldy, .mem (.abs w)⟩
  | .ldyAbx w => ⟨0xBC, .ldy, .mem (.abx w)⟩
  | .staZp z => ⟨0x85, .sta, .mem (.zp z)⟩
  | .staZpx z => ⟨0x95, .sta, .mem (.zpx z)⟩
  | .staAbs w => ⟨0x8D, .sta, .mem (.abs w)⟩
  | .staIzx z => ⟨0x81, .sta, .mem (.izx z)⟩
  | .staIzy z => ⟨0x91, .sta, .mem (.izy z)⟩
  | .staAbx w => ⟨0x9D, .sta, .mem (.abx w)⟩
  | .staAby w => ⟨0x99, .sta, .mem (.aby w)⟩
  | .stxZp z => ⟨0x86, .stx, .mem (.zp z)⟩
  | .stxZpy z => ⟨0x96, .stx, .mem (.zpy z)⟩
  | .stxAbs w => ⟨0x8E, .stx, .mem (.abs w)⟩
  | .styZp z => ⟨0x84, .sty, .mem (.zp z)⟩
  | .styZpx z => ⟨0x94, .sty, .mem (.zpx z)⟩
  | .styAbs w => ⟨0x8C, .sty, .mem (.abs w)⟩
  | .tax => ⟨0xAA, .tax, .imp⟩
  | .tay => ⟨0xA8, .tay, .imp⟩
  | .txa => ⟨0x8A, .txa, .imp⟩
  | .tya => ⟨0x98, .tya, .imp⟩
  | .tsx => ⟨0xBA, .tsx, .imp⟩
  | .txs => ⟨0x9A, .txs, .imp⟩
  | .pha => ⟨0x48, .pha, .imp⟩
  | .php => ⟨0x08, .php, .imp⟩
  | .pla => ⟨0x68, .pla, .imp⟩
  | .plp => ⟨0x28, .plp, .imp⟩
  | .adcImm v => ⟨0x69, .adc, .imm v⟩
  | .adcZp z => ⟨0x65, .adc, .mem (.zp z)⟩
  | .adcZpx z => ⟨0x75, .adc, .mem (.zpx z)⟩
  | .adcAbs w => ⟨0x6D, .adc, .mem (.abs w)⟩
  | .adcIzx z => ⟨0x61, .adc, .mem (.izx z)⟩
  | .adcIzy z => ⟨0x71, .adc, .mem (.izy z)⟩
  | .adcAbx w => ⟨0x7D, .adc, .mem (.abx w)⟩
  | .adcAby w => ⟨0x79, .adc, .mem (.aby w)⟩
  | .sbcImm v => ⟨0xE9, .sbc, .imm v⟩
  | .sbcZp z => ⟨0xE5, .sbc, .mem (.zp z)⟩
  | .sbcZpx z => ⟨0xF5, .sbc, .mem (.zpx z)⟩
  | .sbcAbs w => ⟨0xED, .sbc, .mem (.abs w)⟩
  | .sbcIzx z => ⟨0xE1, .sbc, .mem (.izx z)⟩
  | .sbcIzy z => ⟨0xF1, .sbc, .mem (.izy z)⟩
  | .sbcAbx w => ⟨0xFD, .sbc, .mem (.abx w)⟩
  | .sbcAby w => ⟨0xF9, .sbc, .mem (.aby w)⟩
  | .cmpImm v => ⟨0xC9, .cmp, .imm v⟩
  | .cmpZp z => ⟨0xC5, .cmp, .mem (.zp z)⟩
  | .cmpZpx z => ⟨0xD5, .cmp, .mem (.zpx z)⟩
  | .cmpAbs w => ⟨0xCD, .cmp, .mem (.abs w)⟩
  | .cmpIzx z => ⟨0xC1, .cmp, .mem (.izx z)⟩
  | .cmpIzy z => ⟨0xD1, .cmp, .mem (.izy z)⟩
  | .cmpAbx w => ⟨0xDD, .cmp, .mem (.abx w)⟩
  | .cmpAby w => ⟨0xD9, .cmp, .mem (.aby w)⟩
  | .cpxImm v => ⟨0xE0, .cpx, .imm v⟩
  | .cpxZp z => ⟨0xE4, .cpx, .mem (.zp z)⟩
  | .cpxAbs w => ⟨0xEC, .cpx, .mem (.abs w)⟩
  | .cpyImm v => ⟨0xC0, .cpy, .imm v⟩
  | .cpyZp z => ⟨0xC4, .cpy, .mem (.zp z)⟩
  | .cpyAbs w => ⟨0xCC, .cpy, .mem (.abs w)⟩
  | .andImm v => ⟨0x29, .and, .imm v⟩
  | .andZp z => ⟨0x25, .and, .mem (.zp z)⟩
  | .andZpx z => ⟨0x35, .and, .mem (.zpx z)⟩
  | .andAbs w => ⟨0x2D, .and, .mem (.abs w)⟩
  | .andIzx z => ⟨0x21, .and, .mem (.izx z)⟩
  | .andIzy z => ⟨0x31, .and, .mem (.izy z)⟩
  | .andAbx w => ⟨0x3D, .and, .mem (.abx w)⟩
  | .andAby w => ⟨0x39, .and, .mem (.aby w)⟩
  | .oraImm v => ⟨0x09, .ora, .imm v⟩
  | .oraZp z => ⟨0x05, .ora, .mem (.zp z)⟩
  | .oraZpx z => ⟨0x15, .ora, .mem (.zpx z)⟩
  | .oraAbs w => ⟨0x0D, .ora, .mem (.abs w)⟩
  | .oraIzx z => ⟨0x01, .ora, .mem (.izx z)⟩
  | .oraIzy z => ⟨0x11, .ora, .mem (.izy z)⟩
  | .oraAbx w => ⟨0x1D, .ora, .mem (.abx w)⟩
  | .oraAby w => ⟨0x19, .ora, .mem (.aby w)⟩
  | .eorImm v => ⟨0x49, .eor, .imm v⟩
  | .eorZp z => ⟨0x45, .eor, .mem (.zp z)⟩
  | .eorZpx z => ⟨0x55, .eor, .mem (.zpx z)⟩
  | .eorAbs w => ⟨0x4D, .eor, .mem (.abs w)⟩
  | .eorIzx z => ⟨0x41, .eor, .mem (.izx z)⟩
  | .eorIzy z => ⟨0x51, .eor, .mem (.izy z)⟩
  | .eorAbx w => ⟨0x5D, .eor, .mem (.abx w)⟩
  | .eorAby w => ⟨0x59, .eor, .mem (.aby w)⟩
  | .bitZp z => ⟨0x24, .bit, .mem (.zp z)⟩
  | .bitAbs w => ⟨0x2C, .bit, .mem (.abs w)⟩
  | .incZp z => ⟨0xE6, .inc, .mem (.zp z)⟩
  | .incZpx z => ⟨0xF6, .inc, .mem (.zpx z)⟩
  | .incAbs w => ⟨0xEE, .inc, .mem (.abs w)⟩
  | .incAbx w => ⟨0xFE, .inc, .mem (.abx w)⟩
  | .decZp z => ⟨0xC6, .dec, .mem (.zp z)⟩
  | .decZpx z => ⟨0xD6, .dec, .mem (.zpx z)⟩
  | .decAbs w => ⟨0xCE, .dec, .mem (.abs w)⟩
  | .decAbx w => ⟨0xDE, .dec, .mem (.abx w)⟩
  | .inx => ⟨0xE8, .inx, .imp⟩
  | .iny => ⟨0xC8, .iny, .imp⟩
  | .dex => ⟨0xCA, .dex, .imp⟩
  | .dey => ⟨0x88, .dey, .imp⟩
  | .aslAcc => ⟨0x0A, .asl, .acc⟩
  | .aslZp z => ⟨0x06, .asl, .mem (.zp z)⟩
  | .aslZpx z => ⟨0x16, .asl, .mem (.zpx z)⟩
  | .aslAbs w => ⟨0x0E, .asl, .mem (.abs w)⟩
  | .aslAbx w => ⟨0x1E, .asl, .mem (.abx w)⟩
  | .lsrAcc => ⟨0x4A, .lsr, .acc⟩
  | .lsrZp z => ⟨0x46, .lsr, .mem (.zp z)⟩
  | .lsrZpx z => ⟨0x56, .lsr, .mem (.zpx z)⟩
  | .lsrAbs w => ⟨0x4E, .lsr, .mem (.abs w)⟩
  | .lsrAbx w => ⟨0x5E, .lsr, .mem (.abx w)⟩
  | .rolAcc => ⟨0x2A, .rol, .acc⟩
  | .rolZp z => ⟨0x26, .rol, .mem (.zp z)⟩
  | .rolZpx z => ⟨0x36, .rol, .mem (.zpx z)⟩
  | .rolAbs w => ⟨0x2E, .rol, .mem (.abs w)⟩
  | .rolAbx w => ⟨0x3E, .rol, .mem (.abx w)⟩
  | .rorAcc => ⟨0x6A, .ror, .acc⟩
  | .rorZp z => ⟨0x66, .ror, .mem (.zp z)⟩
  | .rorZpx z => ⟨0x76, .ror, .mem (.zpx z)⟩
  | .rorAbs w => ⟨0x6E, .ror, .mem (.abs w)⟩
  | .rorAbx w => ⟨0x7E, .ror, .mem (.abx w)⟩
  | .jmpAbs w => ⟨0x4C, .jmp, .mem (.abs w)⟩
  | .jmpInd p => ⟨0x6C, .jmp, .ind p⟩
  | .jsr w => ⟨0x20, .jsr, .mem (.abs w)⟩
  | .rts => ⟨0x60, .rts, .imp⟩
  | .bpl r => ⟨0x10, .bpl, .rel r⟩
  | .bmi r => ⟨0x30, .bmi, .rel r⟩
  | .bvc r => ⟨0x50, .bvc, .rel r⟩
  | .bvs r => ⟨0x70, .bvs, .rel r⟩
  | .bcc r => ⟨0x90, .bcc, .rel r⟩
  | .bcs r => ⟨0xB0, .bcs, .rel r⟩
  | .bne r => ⟨0xD0, .bne, .rel r⟩
  | .beq r => ⟨0xF0, .beq, .rel r⟩
  | .clc => ⟨0x18, .clc, .imp⟩
  | .sec => ⟨0x38, .sec, .imp⟩
  | .cli => ⟨0x58, .cli, .imp⟩
  | .sei => ⟨0x78, .sei, .imp⟩
  | .cld => ⟨0xD8, .cld, .imp⟩
  | .sed => ⟨0xF8, .sed, .imp⟩
  | .clv => ⟨0xB8, .clv, .imp⟩
  | .nop => ⟨0xEA, .nop, .imp⟩
  | .laxZp z => ⟨0xA7, .lax, .mem (.zp z)⟩
  | .laxZpy z => ⟨0xB7, .lax, .mem (.zpy z)⟩
  | .laxAbs w => ⟨0xAF, .lax, .mem (.abs w)⟩
  | .laxIzx z => ⟨0xA3, .lax, .mem (.izx z)⟩
  | .laxIzy z => ⟨0xB3, .lax, .mem (.izy z)⟩
  | .laxAby w => ⟨0xBF, .lax, .mem (.aby w)⟩
  | .saxZp z => ⟨0x87, .sax, .mem (.zp z)⟩
  | .saxZpy z => ⟨0x97, .sax, .mem (.zpy z)⟩
  | .saxAbs w => ⟨0x8F, .sax, .mem (.abs w)⟩
  | .saxIzx z => ⟨0x83, .sax, .mem (.izx z)⟩
  | .sloZp z => ⟨0x07, .slo, .mem (.zp z)⟩
  | .sloZpx z => ⟨0x17, .slo, .mem (.zpx z)⟩
  | .sloAbs w => ⟨0x0F, .slo, .mem (.abs w)⟩
  | .sloIzx z => ⟨0x03, .slo, .mem (.izx z)⟩
  | .sloIzy z => ⟨0x13, .slo, .mem (.izy z)⟩
  | .sloAbx w => ⟨0x1F, .slo, .mem (.abx w)⟩
  | .sloAby w => ⟨0x1B, .slo, .mem (.aby w)⟩
  | .rlaZp z => ⟨0x27, .rla, .mem (.zp z)⟩
  | .rlaZpx z => ⟨0x37, .rla, .mem (.zpx z)⟩
  | .rlaAbs w => ⟨0x2F, .rla, .mem (.abs w)⟩
  | .rlaIzx z => ⟨0x23, .rla, .mem (.izx z)⟩
  | .rlaIzy z => ⟨0x33, .rla, .mem (.izy z)⟩
  | .rlaAbx w => ⟨0x3F, .rla, .mem (.abx w)⟩
  | .rlaAby w => ⟨0x3B, .rla, .mem (.aby w)⟩
  | .sreZp z => ⟨0x47, .sre, .mem (.zp z)⟩
  | .sreZpx z => ⟨0x57, .sre, .mem (.zpx z)⟩
  | .sreAbs w => ⟨0x4F, .sre, .mem (.abs w)⟩
  | .sreIzx z => ⟨0x43, .sre, .mem (.izx z)⟩
  | .sreIzy z => ⟨0x53, .sre, .mem (.izy z)⟩
  | .sreAbx w => ⟨0x5F, .sre, .mem (.abx w)⟩
  | .sreAby w => ⟨0x5B, .sre, .mem (.aby w)⟩
  | .rraZp z => ⟨0x67, .rra, .mem (.zp z)⟩
  | .rraZpx z => ⟨0x77, .rra, .mem (.zpx z)⟩
  | .rraAbs w => ⟨0x6F, .rra, .mem (.abs w)⟩
  | .rraIzx z => ⟨0x63, .rra, .mem (.izx z)⟩
  | .rraIzy z => ⟨0x73, .rra, .mem (.izy z)⟩
  | .rraAbx w => ⟨0x7F, .rra, .mem (.abx w)⟩
  | .rraAby w => ⟨0x7B, .rra, .mem (.aby w)⟩
  | .dcpZp z => ⟨0xC7, .dcp, .mem (.zp z)⟩
  | .dcpZpx z => ⟨0xD7, .dcp, .mem (.zpx z)⟩
  | .dcpAbs w => ⟨0xCF, .dcp, .mem (.abs w)⟩
  | .dcpIzx z => ⟨0xC3, .dcp, .mem (.izx z)⟩
  | .dcpIzy z => ⟨0xD3, .dcp, .mem (.izy z)⟩
  | .dcpAbx w => ⟨0xDF, .dcp, .mem (.abx w)⟩
  | .dcpAby w => ⟨0xDB, .dcp, .mem (.aby w)⟩
  | .iscZp z => ⟨0xE7, .isc, .mem (.zp z)⟩
  | .iscZpx z => ⟨0xF7, .isc, .mem (.zpx z)⟩
  | .iscAbs w => ⟨0xEF, .isc, .mem (.abs w)⟩
  | .iscIzx z => ⟨0xE3, .isc, .mem (.izx z)⟩
  | .iscIzy z => ⟨0xF3, .isc, .mem (.izy z)⟩
  | .iscAbx w => ⟨0xFF, .isc, .mem (.abx w)⟩
  | .iscAby w => ⟨0xFB, .isc, .mem (.aby w)⟩
  | .ancImm0B v => ⟨0x0B, .anc, .imm v⟩
  | .ancImm2B v => ⟨0x2B, .anc, .imm v⟩
  | .alrImm v => ⟨0x4B, .alr, .imm v⟩
  | .arrImm v => ⟨0x6B, .arr, .imm v⟩
  | .xaaImm v => ⟨0x8B, .xaa, .imm v⟩
  | .axsImm v => ⟨0xCB, .axs, .imm v⟩
  | .shxAby w => ⟨0x9E, .shx, .mem (.aby w)⟩
  | .shyAbx w => ⟨0x9C, .shy, .mem (.abx w)⟩
  | .nopImp1A => ⟨0x1A, .nop, .imp⟩
  | .nopImp3A => ⟨0x3A, .nop, .imp⟩
  | .nopImp5A => ⟨0x5A, .nop, .imp⟩
  | .nopImp7A => ⟨0x7A, .nop, .imp⟩
  | .nopImpDA => ⟨0xDA, .nop, .imp⟩
  | .nopImpFA => ⟨0xFA, .nop, .imp⟩
  | .nopImm80 v => ⟨0x80, .nop, .imm v⟩
  | .nopImm82 v => ⟨0x82, .nop, .imm v⟩
  | .nopImm89 v => ⟨0x89, .nop, .imm v⟩
  | .nopImmC2 v => ⟨0xC2, .nop, .imm v⟩
  | .nopImmE2 v => ⟨0xE2, .nop, .imm v⟩
  | .nopZp04 z => ⟨0x04, .nop, .mem (.zp z)⟩
  | .nopZp44 z => ⟨0x44, .nop, .mem (.zp z)⟩
  | .nopZp64 z => ⟨0x64, .nop, .mem (.zp z)⟩
  | .nopZpx14 z => ⟨0x14, .nop, .mem (.zpx z)⟩
  | .nopZpx34 z => ⟨0x34, .nop, .mem (.zpx z)⟩
  | .nopZpx54 z => ⟨0x54, .nop, .mem (.zpx z)⟩
  | .nopZpx74 z => ⟨0x74, .nop, .mem (.zpx z)⟩
  | .nopZpxD4 z => ⟨0xD4, .nop, .mem (.zpx z)⟩
  | .nopZpxF4 z => ⟨0xF4, .nop, .mem (.zpx z)⟩
  | .nopAbs0C w => ⟨0x0C, .nop, .mem (.abs w)⟩
  | .nopAbx1C w => ⟨0x1C, .nop, .mem (.abx w)⟩
  | .nopAbx3C w => ⟨0x3C, .nop, .mem (.abx w)⟩
  | .nopAbx5C w => ⟨0x5C, .nop, .mem (.abx w)⟩
  | .nopAbx7C w => ⟨0x7C, .nop, .mem (.abx w)⟩
  | .nopAbxDC w => ⟨0xDC, .nop, .mem (.abx w)⟩
  | .nopAbxFC w => ⟨0xFC, .nop, .mem (.abx w)⟩
  | .sbcImmEB v => ⟨0xEB, .sbc, .imm v⟩
  | .kil02 => ⟨0x02, .kil, .halt⟩
  | .kil12 => ⟨0x12, .kil, .halt⟩
  | .kil22 => ⟨0x22, .kil, .halt⟩
  | .kil32 => ⟨0x32, .kil, .halt⟩
  | .kil42 => ⟨0x42, .kil, .halt⟩
  | .kil52 => ⟨0x52, .kil, .halt⟩
  | .kil62 => ⟨0x62, .kil, .halt⟩
  | .kil72 => ⟨0x72, .kil, .halt⟩
  | .kil92 => ⟨0x92, .kil, .halt⟩
  | .kil93 => ⟨0x93, .kil, .halt⟩
  | .kil9B => ⟨0x9B, .kil, .halt⟩
  | .kil9F => ⟨0x9F, .kil, .halt⟩
  | .kilAB => ⟨0xAB, .kil, .halt⟩
  | .kilB2 => ⟨0xB2, .kil, .halt⟩
  | .kilBB => ⟨0xBB, .kil, .halt⟩
  | .kilD2 => ⟨0xD2, .kil, .halt⟩
  | .kilF2 => ⟨0xF2, .kil, .halt⟩
  | .brk => ⟨0x00, .brk, .imp⟩
  | .rti => ⟨0x40, .rti, .imp⟩

/-- The opcode byte (R91). -/
def Instr.opcode (i : Instr) : Byte := i.parts.opcode

/-- The operation (R338). -/
def Instr.operation (i : Instr) : Operation := i.parts.operation

/-- The operand. -/
def Instr.operand (i : Instr) : Operand := i.parts.operand

/-- The instruction as an assembler writes it. -/
def Instr.asm (i : Instr) : AsmInstr := ⟨i.operation, i.operand⟩

/-- The pair of operation and addressing mode is one that exists (R137). -/
def Instr.wellFormed (i : Instr) : Bool := i.asm.wellFormed

/-- The encoder: the opcode byte, then the operand bytes (R90, R91). -/
def encode (i : Instr) : List Byte := i.opcode :: i.operand.bytes

/-- The length of an instruction in bytes (R90). -/
def Instr.length (i : Instr) : Nat := 1 + operandCount i.opcode

/-! ## The opcode table's words -/

/-- The three bytes of a table word: bit 0 is the least significant bit of the first byte, later bytes count
on from it, and every bit from `nbits` on is 0. -/
def tableBytes (nbits w : Nat) : List Byte :=
  let v := w % 2 ^ nbits
  [BitVec.ofNat 8 v, BitVec.ofNat 8 (v / 256), BitVec.ofNat 8 (v / 65536)]

/-- What the decoder reads from the bytes of a table word. -/
def decodeTableWord (nbits w : Nat) : Option Instr :=
  match decode (tableBytes nbits w) with
  | .instr i _ => some i
  | .error _   => none

/-! ## Classes of operation -/

/-- What an operation does with the effective address (R339). -/
inductive OpClass where
  | read | store | readModifyWrite | other | halt
deriving DecidableEq, Repr

/-- The class of an operation with its addressing mode (R339): a NOP reads only where its mode has a value. -/
def opClass : Operation → Option Mode → OpClass
  | .kil, _ => .halt
  | .nop, some .imp => .other
  | .nop, _ => .read
  | .lda, _ | .ldx, _ | .ldy, _ | .adc, _ | .sbc, _ | .and, _ | .ora, _ | .eor, _ | .cmp, _ | .cpx, _
  | .cpy, _ | .bit, _ | .lax, _ | .anc, _ | .alr, _ | .arr, _ | .xaa, _ | .axs, _ => .read
  | .sta, _ | .stx, _ | .sty, _ | .sax, _ | .shx, _ | .shy, _ => .store
  | .asl, _ | .lsr, _ | .rol, _ | .ror, _ | .inc, _ | .dec, _ | .slo, _ | .rla, _ | .sre, _ | .rra, _
  | .dcp, _ | .isc, _ => .readModifyWrite
  | .tax, _ | .tay, _ | .txa, _ | .tya, _ | .tsx, _ | .txs, _ | .pha, _ | .php, _ | .pla, _ | .plp, _
  | .inx, _ | .iny, _ | .dex, _ | .dey, _ | .jmp, _ | .jsr, _ | .rts, _ | .bpl, _ | .bmi, _ | .bvc, _
  | .bvs, _ | .bcc, _ | .bcs, _ | .bne, _ | .beq, _ | .brk, _ | .rti, _ | .clc, _ | .sec, _ | .cli, _
  | .sei, _ | .cld, _ | .sed, _ | .clv, _ => .other

/-- The 17 halt opcodes and the 88 executed undocumented ones are the undocumented opcodes (R97, R100). -/
def undocumentedOpcodes : List Byte :=
  [0x02, 0x03, 0x04, 0x07, 0x0B, 0x0C, 0x0F, 0x12, 0x13, 0x14, 0x17, 0x1A, 0x1B, 0x1C, 0x1F] ++
  [0x22, 0x23, 0x27, 0x2B, 0x2F, 0x32, 0x33, 0x34, 0x37, 0x3A, 0x3B, 0x3C, 0x3F, 0x42, 0x43] ++
  [0x44, 0x47, 0x4B, 0x4F, 0x52, 0x53, 0x54, 0x57, 0x5A, 0x5B, 0x5C, 0x5F, 0x62, 0x63, 0x64] ++
  [0x67, 0x6B, 0x6F, 0x72, 0x73, 0x74, 0x77, 0x7A, 0x7B, 0x7C, 0x7F, 0x80, 0x82, 0x83, 0x87] ++
  [0x89, 0x8B, 0x8F, 0x92, 0x93, 0x97, 0x9B, 0x9C, 0x9E, 0x9F, 0xA3, 0xA7, 0xAB, 0xAF, 0xB2] ++
  [0xB3, 0xB7, 0xBB, 0xBF, 0xC2, 0xC3, 0xC7, 0xCB, 0xCF, 0xD2, 0xD3, 0xD4, 0xD7, 0xDA, 0xDB] ++
  [0xDC, 0xDF, 0xE2, 0xE3, 0xE7, 0xEB, 0xEF, 0xF2, 0xF3, 0xF4, 0xF7, 0xFA, 0xFB, 0xFC, 0xFF]

/-- The opcode is one of the 151 documented ones (R97). -/
def documented (op : Byte) : Bool := !undocumentedOpcodes.contains op

/-! ## The assembler's notation -/

/-- The 256 opcodes, in order. -/
def allOpcodes : List Byte := (List.range 256).map (BitVec.ofNat 8)

/-- The opcodes with an operation and an addressing mode, in order. -/
def opcodesFor (o : Operation) (m : Option Mode) : List Byte :=
  allOpcodes.filter fun op => (dispatchEntry op).operation == o && (dispatchEntry op).mode == m

/-- The opcode that an assembler emits (R104): the documented one where one exists, else the lowest. -/
def assemblerOpcode (o : Operation) (m : Option Mode) : Option Byte :=
  match (opcodesFor o m).find? documented with
  | some op => some op
  | none    => (opcodesFor o m).head?

/-- The bytes that an assembler emits, none for a pair that does not exist (R104, R137). -/
def assemble (a : AsmInstr) : Option (List Byte) :=
  (assemblerOpcode a.operation a.operand.mode).map fun op => op :: a.operand.bytes

/-- The offset byte that an assembler stores for a branch at `p` to `target`: `target - (p + 2)` where it
fits a signed byte (R106). -/
def branchOffset (p target : Addr) : Option Byte :=
  let d := target - (p + 2)
  if -128 ≤ d.toInt ∧ d.toInt ≤ 127 then some (d.setWidth 8) else none

/-- A hexadecimal digit. -/
def hexDigit (n : Nat) : Char := "0123456789ABCDEF".toList.getD n '?'

/-- Two hexadecimal digits. -/
def hexByte (b : Byte) : String := String.ofList [hexDigit (b.toNat / 16), hexDigit (b.toNat % 16)]

/-- Four hexadecimal digits. -/
def hexWord (w : Addr) : String := hexByte (highByte w) ++ hexByte (lowByte w)

/-- The text of a memory operand (R106). -/
def MemOperand.text : MemOperand → String
  | .zp z  => "$" ++ hexByte z
  | .zpx z => "$" ++ hexByte z ++ ",X"
  | .zpy z => "$" ++ hexByte z ++ ",Y"
  | .abs w => "$" ++ hexWord w
  | .abx w => "$" ++ hexWord w ++ ",X"
  | .aby w => "$" ++ hexWord w ++ ",Y"
  | .izx z => "($" ++ hexByte z ++ ",X)"
  | .izy z => "($" ++ hexByte z ++ "),Y"

/-- The text of an operand of an instruction at `p` (R106); a branch is written with its target. -/
def Operand.text (p : Addr) : Operand → String
  | .halt | .imp => ""
  | .acc   => "A"
  | .imm v => "#$" ++ hexByte v
  | .mem m => m.text
  | .ind w => "($" ++ hexWord w ++ ")"
  | .rel r => "$" ++ hexWord (p + 2 + r.signExtend 16)

/-- The mnemonic of an operation (R106, R108). -/
def Operation.mnemonic : Operation → String
  | .lda => "LDA"
  | .ldx => "LDX"
  | .ldy => "LDY"
  | .lax => "LAX"
  | .sta => "STA"
  | .stx => "STX"
  | .sty => "STY"
  | .sax => "SAX"
  | .shx => "SHX"
  | .shy => "SHY"
  | .tax => "TAX"
  | .tay => "TAY"
  | .txa => "TXA"
  | .tya => "TYA"
  | .tsx => "TSX"
  | .txs => "TXS"
  | .pha => "PHA"
  | .php => "PHP"
  | .pla => "PLA"
  | .plp => "PLP"
  | .adc => "ADC"
  | .rra => "RRA"
  | .sbc => "SBC"
  | .isc => "ISC"
  | .cmp => "CMP"
  | .cpx => "CPX"
  | .cpy => "CPY"
  | .dcp => "DCP"
  | .axs => "AXS"
  | .and => "AND"
  | .ora => "ORA"
  | .eor => "EOR"
  | .rla => "RLA"
  | .slo => "SLO"
  | .sre => "SRE"
  | .anc => "ANC"
  | .alr => "ALR"
  | .arr => "ARR"
  | .xaa => "XAA"
  | .bit => "BIT"
  | .inc => "INC"
  | .dec => "DEC"
  | .inx => "INX"
  | .iny => "INY"
  | .dex => "DEX"
  | .dey => "DEY"
  | .asl => "ASL"
  | .lsr => "LSR"
  | .rol => "ROL"
  | .ror => "ROR"
  | .jmp => "JMP"
  | .jsr => "JSR"
  | .rts => "RTS"
  | .bpl => "BPL"
  | .bmi => "BMI"
  | .bvc => "BVC"
  | .bvs => "BVS"
  | .bcc => "BCC"
  | .bcs => "BCS"
  | .bne => "BNE"
  | .beq => "BEQ"
  | .brk => "BRK"
  | .rti => "RTI"
  | .clc => "CLC"
  | .sec => "SEC"
  | .cli => "CLI"
  | .sei => "SEI"
  | .cld => "CLD"
  | .sed => "SED"
  | .clv => "CLV"
  | .nop => "NOP"
  | .kil => "KIL"

/-- The text of an instruction at `p` (R106). -/
def AsmInstr.text (p : Addr) (a : AsmInstr) : String :=
  match a.operand with
  | .halt | .imp => a.operation.mnemonic
  | _            => a.operation.mnemonic ++ " " ++ a.operand.text p

end Sys2Proof
end

