-- ==== Sys2Proof/Machine/State.lean ====
section
/-! DEFINITION. The state of the machine (R20), its memory, the reasons a step can stop, and the state after reset. -/

namespace Sys2Proof.Machine

/-- Memory: the backed bytes that differ from `unlistedByte`, by strictly rising address.  An address that is not
listed reads as `unlistedByte` (log entry 1). -/
abbrev Memory := List Host.Cell

/-- The addresses of a memory rise strictly from `lo` on and stay within 16 bits (R61), and no entry holds what an
unlisted address would read as. -/
def Memory.wfFrom : Nat → Memory → Bool
  | _, [] => true
  | lo, (a, v) :: m => decide (lo ≤ a) && decide (a < 65536) && v != unlistedByte && Memory.wfFrom (a + 1) m

/-- The canonical form of a memory: the one list that stands for its contents. -/
def Memory.wf (m : Memory) : Bool := Memory.wfFrom 0 m

/-- One bus access, in the terms of R60: `MemRead(addr, 1)` or `MemWrite(addr, 1, v)`. -/
inductive BusAccess where
  | read  (addr : Addr)
  | write (addr : Addr) (v : Byte)
deriving DecidableEq, Repr

/-- The status that `Step` returns beside its cycle count (R8, R337). -/
inductive StepStatus where
  | normal | nmi | halted
deriving DecidableEq, Repr

/-- The state of one machine.  The fields from `A` to `nmiEdge` are the core's state, all of it (R20); `mem` is
the default memory provider's contents (R63), `providerState` what an injected provider keeps (R62); `cfg` holds
the parameters of R7 and the choice of the provider; `status` and `bus` record what the last step returned and did
on the bus, and no rule reads them (R337, R75; log entries 4 and 5). -/
structure State where
  /-- Accumulator (R21). -/
  A           : Byte
  /-- Index register X (R21). -/
  X           : Byte
  /-- Index register Y (R21). -/
  Y           : Byte
  /-- Stack pointer: the low byte of the address of the next free stack slot (R22). -/
  S           : Byte
  /-- Program counter (R24). -/
  PC          : Addr
  /-- Carry (R32). -/
  C           : Bool
  /-- Zero (R33). -/
  Z           : Bool
  /-- Interrupt disable, which masks nothing (R34). -/
  I           : Bool
  /-- Decimal (R35). -/
  D           : Bool
  /-- Break, a stored flag (R36). -/
  B           : Bool
  /-- Overflow (R39). -/
  V           : Bool
  /-- Negative (R41). -/
  N           : Bool
  /-- The last opcode byte fetched (R43). -/
  opcode      : Byte
  /-- The cost of the last step or reset (R43). -/
  cycles      : Nat
  /-- The running total of all costs, without an upper bound (R44). -/
  totalCycles : Nat
  /-- The pending-NMI latch (R45). -/
  nmiEdge     : Bool
  /-- The status of the last step (R337). -/
  status      : StepStatus
  /-- The bus accesses of the last step or reset, in order (R75, R76). -/
  bus         : List BusAccess
  /-- The contents of the backed memory of the default provider (R63). -/
  mem         : Memory
  /-- The state of an injected provider, as a number (R62, R65; log entry 18); the default provider has none. -/
  providerState : Nat
  /-- The parameters (R7) and the choice of the memory provider (R62). -/
  cfg         : Config
deriving DecidableEq, Repr

/-- The faults of the machine: there are none.  No access, no arithmetic, no privilege and no encoding faults
(R352, U19), so no instruction can raise one; the type is closed and empty. -/
inductive Fault where
deriving DecidableEq, Repr

/-- Why the model gives no answer. -/
inductive Refusal where
  /-- An instruction whose meaning is not written; raised by `exec` alone, never by a meaning.  Safe: the model
  stops where the hardware goes on.  No arm raises it now. -/
  | notModelled (mnemonic : String)
deriving DecidableEq, Repr

/-- The state at construction, power-on before any `Reset` (R47), with the default parameters and no byte
of memory listed.  `status` and `bus`, which belong to no step yet, are DESIGN CHOICE (log entries 4 and 5). -/
def State.construction : State where
  A           := 0x00#8
  X           := 0x00#8
  Y           := 0x00#8
  S           := 0xFF#8
  PC          := 0x0000#16
  C           := false
  Z           := false
  I           := false
  D           := false
  B           := false
  V           := false
  N           := false
  opcode      := 0x00#8
  cycles      := 0
  totalCycles := 0
  nmiEdge     := false
  status      := .normal
  bus         := []
  mem         := []
  providerState := 0
  cfg         := Config.default

/-- The machine right after reset: what `Reset` (R48, R350) leaves of the state at construction.  `PC` holds the
reset vector `0xFFFC`, `0xFFFD` of a memory in which nothing has been written (log entry 2). -/
def State.reset : State :=
  { State.construction with
    S           := Config.default.resetS
    PC          := BitVec.ofNat 16 (unlistedByte.toNat * 256 + unlistedByte.toNat)
    I           := true
    cycles      := 7
    totalCycles := 7
    bus         := [.read 0xFFFC#16, .read 0xFFFD#16] }

end Sys2Proof.Machine
end

