-- ==== Sys2Proof/Machine/Flags.lean ====
section
/-! DEFINITION. The flags: the status byte (R37, R38), `UpdateZN` (R40), and the arithmetic that computes flags
(R182, R184, R186, R187). -/

namespace Sys2Proof.Machine

/-! ## The status byte -/

/-- The weight of a flag in the status byte: bit `n` when the flag is 1. -/
def flagBit (f : Bool) (n : Nat) : Byte := if f then 1#8 <<< n else 0#8

/-- `PackStatus()`, R37: `N V 1 B D I Z C` from bit 7 to bit 0. -/
def packStatus (s : State) : Byte :=
  flagBit s.N 7 ||| flagBit s.V 6 ||| flagBit true 5 ||| flagBit s.B 4 |||
  flagBit s.D 3 ||| flagBit s.I 2 ||| flagBit s.Z 1 ||| flagBit s.C 0

/-- `UnpackStatus(b)`, R38: the seven flags from the byte; bit 5 is discarded (R42). -/
def unpackStatus (b : Byte) (s : State) : State :=
  { s with
    N := b.getLsbD 7
    V := b.getLsbD 6
    B := b.getLsbD 4
    D := b.getLsbD 3
    I := b.getLsbD 2
    Z := b.getLsbD 1
    C := b.getLsbD 0 }

/-- `UpdateZN(v)`, R40. -/
def updateZN (v : Byte) (s : State) : State :=
  { s with Z := v == 0#8, N := v.msb }

/-! ## Binary arithmetic -/

/-- What `AddBinary` returns: the result `r`, the carry `cb` and the overflow `ov` (R182). -/
structure BinarySum where
  r  : Byte
  cb : Bool
  ov : Bool
deriving DecidableEq, Repr

/-- `AddBinary(a, v, c)`, R182. -/
def addBinary (a v : Byte) (c : Bool) : BinarySum :=
  let s := a.toNat + v.toNat + c.toNat
  let r : Byte := BitVec.ofNat 8 s
  { r  := r
    cb := decide (s > 255)
    ov := (~~~(a ^^^ v) &&& (a ^^^ r) &&& 0x80#8) != 0#8 }

/-! ## Decimal arithmetic -/

/-- What `AddDecimal` returns: the result `r` and the decimal carry `cd` (R184). -/
structure DecimalSum where
  r  : Byte
  cd : Bool
deriving DecidableEq, Repr

/-- `AddDecimal(a, v, c)`, R184: nibble sums, each corrected by 6 above 9. -/
def addDecimal (a v : Byte) (c : Bool) : DecimalSum :=
  let lo := a.toNat % 16 + v.toNat % 16 + c.toNat
  let lo := if lo > 9 then lo + 6 else lo
  let hi := a.toNat / 16 + v.toNat / 16 + (if lo > 0x0F then 1 else 0)
  let hi := if hi > 9 then hi + 6 else hi
  { r  := BitVec.ofNat 8 (hi % 16 * 16 + lo % 16)
    cd := decide (hi > 0x0F) }

/-- `SubDecimal(a, v, c)`, R186: nibble differences, each corrected by 6 below 0.  The nibble of a negative
number is its value modulo 16. -/
def subDecimal (a v : Byte) (c : Bool) : Byte :=
  let lo : Int := (a.toNat % 16 : Nat) - (v.toNat % 16 : Nat) - (1 - (c.toNat : Int))
  let bw : Int := if lo < 0 then 1 else 0
  let lo : Int := if lo < 0 then lo - 6 else lo
  let hi : Int := (a.toNat / 16 : Nat) - (v.toNat / 16 : Nat) - bw
  let hi : Int := if hi < 0 then hi - 6 else hi
  BitVec.ofNat 8 ((hi % 16).toNat * 16 + (lo % 16).toNat)

/-! ## Comparison -/

/-- The 9-bit difference `(reg - m) mod 512` of R187. -/
def difference9 (reg m : Byte) : Nat := (reg.toNat + 512 - m.toNat) % 512

/-- `Compare(reg, m)`, R187. -/
def compare (reg m : Byte) (s : State) : State :=
  let t := difference9 reg m
  updateZN (BitVec.ofNat 8 t) { s with C := decide (t < 0x100) }

/-! ## ADC and SBC on the accumulator -/

/-- The body of ADC with operand `m` (R181): in decimal mode `A` and `C` are decimal, `Z`, `N` and `V` binary
(R191). -/
def addToA (m : Byte) (s : State) : State :=
  let b := addBinary s.A m s.C
  let d := addDecimal s.A m s.C
  let s := updateZN b.r { s with V := b.ov }
  if s.D then { s with C := d.cd, A := d.r } else { s with C := b.cb, A := b.r }

/-- The body of SBC with operand `m` (R185): the binary sum with the one's complement gives every flag; only
`A` is decimal in decimal mode (R191). -/
def subtractFromA (m : Byte) (s : State) : State :=
  let b := addBinary s.A (m ^^^ 0xFF#8) s.C
  let d := subDecimal s.A m s.C
  let s := updateZN b.r { s with V := b.ov }
  { s with A := if s.D then d else b.r, C := b.cb }

end Sys2Proof.Machine
end

