-- ==== Sys2Proof/Machine/Ops.lean ====
section
/-! DEFINITION. The shared operations: memory and the bus (R60 to R66), instruction fetch (R26), the stack (R28 to R30),
the cycle count (R334), entering an interrupt (R353, R357) and returning from one (R360). -/

namespace Sys2Proof.Machine

/-! ## Memory -/

/-- The byte at an address of a memory. -/
def Memory.read : Memory → Nat → Byte
  | [], _ => unlistedByte
  | (b, u) :: m, a => if a = b then u else Memory.read m a

/-- A memory with a byte written, in the canonical form `Memory.wf`. -/
def Memory.write : Memory → Nat → Byte → Memory
  | [], a, v => if v = unlistedByte then [] else [(a, v)]
  | (b, u) :: m, a, v =>
    if a < b then
      if v = unlistedByte then (b, u) :: m else (a, v) :: (b, u) :: m
    else if a = b then
      if v = unlistedByte then m else (a, v) :: m
    else (b, u) :: Memory.write m a v

/-- The address lies in the backed region (R7, R63). -/
def backed (c : Config) (a : Addr) : Bool :=
  decide (c.memBase ≤ a.toNat) && decide (a.toNat < c.memBase + c.memSize)

/-- What a read of `a` gives: with the default provider the byte of memory, or `FILL` outside the backed region
(R63); else what the injected provider answers (R62). -/
def State.peek (s : State) (a : Addr) : Byte :=
  match s.cfg.provider with
  | .default    => if backed s.cfg a then s.mem.read a.toNat else s.cfg.fill
  | .injected n => (injectedRead n s.providerState a).1

/-- What a read of `a` leaves of the provider's state: a read has no effect on the default provider (R64), and any on
an injected one (R65). -/
def State.readEffect (s : State) (a : Addr) : Nat :=
  match s.cfg.provider with
  | .default    => s.providerState
  | .injected n => (injectedRead n s.providerState a).2

/-- What a write leaves of an injected provider's state (R62). -/
def State.writeEffect (s : State) (a : Addr) (v : Byte) : Nat :=
  match s.cfg.provider with
  | .default    => s.providerState
  | .injected n => injectedWrite n s.providerState a v

/-- What a write leaves of the default provider's memory: the byte is stored in the backed region and dropped outside
it (R63). -/
def State.storeEffect (s : State) (a : Addr) (v : Byte) : Memory :=
  match s.cfg.provider with
  | .default    => if backed s.cfg a then s.mem.write a.toNat v else s.mem
  | .injected _ => s.mem

/-- The effect of a read on the provider. -/
def State.afterRead (s : State) (a : Addr) : State := { s with providerState := s.readEffect a }

/-- The effect of a write on the provider. -/
def State.poke (s : State) (a : Addr) (v : Byte) : State :=
  { s with mem := s.storeEffect a v, providerState := s.writeEffect a v }

/-- The effect of one access on the provider. -/
def State.access (s : State) : BusAccess → State
  | .read a    => s.afterRead a
  | .write a v => s.poke a v

/-- The effect of accesses, in order, on the provider. -/
def State.after (s : State) (acc : List BusAccess) : State := acc.foldl State.access s

/-- The provider's write of consecutive bytes, the addresses taken modulo 65536. -/
def State.pokeBytes (s : State) (a : Addr) : List Byte → State
  | [] => s
  | v :: vs => State.pokeBytes (s.poke a v) (a + 1) vs

/-- All of `n` consecutive addresses from `a` on, taken modulo 65536, lie in the backed region. -/
def backedRange (c : Config) (a : Addr) : Nat → Bool
  | 0 => true
  | n + 1 => backed c a && backedRange c (a + 1) n

/-! ## The bus -/

/-- `MemRead(a, 1)`: one bus read (R60).  The provider answers it (R62), and it is recorded (R75). -/
def memRead (a : Addr) (s : State) : Byte × State :=
  (s.peek a, { s with providerState := s.readEffect a, bus := s.bus ++ [.read a] })

/-- `MemWrite(a, 1, v)`: one bus write (R60).  The provider takes it (R62), and it is recorded (R75). -/
def memWrite (a : Addr) (v : Byte) (s : State) : State :=
  { s with mem := s.storeEffect a v, providerState := s.writeEffect a v, bus := s.bus ++ [.write a v] }

/-- `Read16(a)`: the low byte at `a`, then the high byte at `a + 1` (R10, R66). -/
def read16 (a : Addr) (s : State) : Addr × State :=
  let lo := memRead a s
  let hi := memRead (a + 1) lo.2
  (wordOf hi.1 lo.1, hi.2)

/-! ## Instruction fetch -/

/-- `Fetch8()`, R26. -/
def fetch8 (s : State) : Byte × State :=
  let v := memRead s.PC s
  (v.1, { v.2 with PC := v.2.PC + 1 })

/-- The opcode fetch: `op <- Fetch8(); opcode <- op` (R322). -/
def fetchOpcode (s : State) : Byte × State :=
  let op := fetch8 s
  (op.1, { op.2 with opcode := op.1 })

/-- An instruction's bytes: the opcode, then the operand bytes it asks for, in order (R75 items 2 and 4, R90). -/
def fetchInstr (s : State) : Instr × State :=
  let op := fetchOpcode s
  match operandCount op.1 with
  | 0 => (instrOf op.1 0 0, op.2)
  | 1 =>
    let b1 := fetch8 op.2
    (instrOf op.1 b1.1 0, b1.2)
  | _ =>
    let b1 := fetch8 op.2
    let b2 := fetch8 b1.2
    (instrOf op.1 b1.1 b2.1, b2.2)

/-! ## The stack -/

/-- The address of a stack slot, `0x0100 | s`: page 1 (R28). -/
def stackAddr (sp : Byte) : Addr := 0x0100#16 ||| sp.setWidth 16

/-- `Push8(v)`, R29: write at `S`, then decrement; `S` wraps. -/
def push8 (v : Byte) (s : State) : State :=
  let s := memWrite (stackAddr s.S) v s
  { s with S := s.S - 1 }

/-- `Pull8()`, R30: increment `S`, which wraps, then read. -/
def pull8 (s : State) : Byte × State :=
  let s := { s with S := s.S + 1 }
  memRead (stackAddr s.S) s

/-- Push a 16-bit value, high byte first (R66). -/
def push16 (w : Addr) (s : State) : State :=
  push8 (lowByte w) (push8 (highByte w) s)

/-- Pull a 16-bit value, low byte first (R66). -/
def pull16 (s : State) : Addr × State :=
  let lo := pull8 s
  let hi := pull8 lo.2
  (wordOf hi.1 lo.1, hi.2)

/-! ## The end of a step -/

/-- Finalise a step that costs `n` cycles: `cycles <- n; totalCycles <- totalCycles + n` (R327, R334), with the
status it returns (R337). -/
def charge (n : Nat) (st : StepStatus) (s : State) : State :=
  { s with cycles := n, totalCycles := s.totalCycles + n, status := st }

/-- The end of an instruction that costs `n` cycles. -/
def complete (n : Nat) (s : State) : Host.Outcome State Fault Refusal :=
  .next (charge n .normal s)

/-! ## Interrupts -/

/-- The reset vector (R68). -/
def resetVector : Addr := 0xFFFC#16

/-- The NMI vector (R68). -/
def nmiVector : Addr := 0xFFFA#16

/-- The BRK vector (R68). -/
def brkVector : Addr := 0xFFFE#16

/-- The status byte that BRK and PHP push: bit 4 forced to 1 (R166, R353). -/
def statusWithBreak (s : State) : Byte := packStatus s ||| 0x10#8

/-- The status byte that NMI service pushes: bit 4 forced to 0 (R357). -/
def statusWithoutBreak (s : State) : Byte := packStatus s &&& 0xEF#8

/-- Entering an interrupt, for BRK (R353) and NMI (R357): push `PC`, high byte first, push the status byte
given, set `I`, then load `PC` from the vector.  The stored `B` and `D` do not change (D11). -/
def enterInterrupt (vector : Addr) (pushed : Byte) (s : State) : State :=
  let s := push8 pushed (push16 s.PC s)
  let s := { s with I := true }
  let v := read16 vector s
  { v.2 with PC := v.1 }

/-- Returning from an interrupt (R360): pull the status byte into the flags, then pull `PC`. -/
def returnFromInterrupt (s : State) : State :=
  let b := pull8 s
  let s := unpackStatus b.1 b.2
  let w := pull16 s
  { w.2 with PC := w.1 }

/-- `ServiceNMI()`, R357: clear the latch, enter through the NMI vector with bit 4 of the pushed status 0, and
charge 7 cycles.  `opcode` does not change (D10). -/
def serviceNmi (s : State) : State :=
  let s := { s with nmiEdge := false }
  charge 7 .nmi (enterInterrupt nmiVector (statusWithoutBreak s) s)

/-- The halt of R298 and R366: `PC` goes back to the opcode, the status is `halted`, `KIL_CYCLES` are charged. -/
def haltAtOpcode (s : State) : State :=
  charge s.cfg.killCycles .halted { s with PC := s.PC - 1 }

end Sys2Proof.Machine
end

