-- ==== Sys2Proof/Machine/Operands.lean ====
section
/-! DEFINITION. The addressing-mode resolver (R120 to R133), page-cross detection (R134), and the shapes that an
operation takes with its operand (R136, R339).  When a meaning runs, the instruction's bytes have been fetched and
`PC` addresses the next instruction (R120, R325). -/

namespace Sys2Proof.Machine

/-! ## Resolvers -/

/-- `PageCrossed(a, b)`, R134. -/
def pageCrossed (a b : Addr) : Bool := (a &&& 0xFF00#16) != (b &&& 0xFF00#16)

/-- The zero-page address `0x00zp` (R92). -/
def zeroPage (z : Byte) : Addr := z.setWidth 16

/-- What a resolver returns: the effective address and whether a page was crossed (R120). -/
structure Resolved where
  addr    : Addr
  crossed : Bool
deriving DecidableEq, Repr

/-- A pointer in zero page: its second byte's address wraps inside the page (R129, R130). -/
def readZeroPagePointer (z : Byte) (s : State) : Addr × State :=
  let lo := memRead (zeroPage z) s
  let hi := memRead (zeroPage (z + 1)) lo.2
  (wordOf hi.1 lo.1, hi.2)

/-- An index register added to a 16-bit base (R130 to R132). -/
def indexed (base : Addr) (index : Byte) : Resolved :=
  let addr := base + index.setWidth 16
  { addr := addr, crossed := pageCrossed base addr }

/-- The resolvers of the eight modes that name a byte of memory, R124 to R127 and R129 to R132. -/
def resolve : MemOperand → State → Resolved × State
  | .zp z,  s => (⟨zeroPage z, false⟩, s)
  | .zpx z, s => (⟨zeroPage (z + s.X), false⟩, s)
  | .zpy z, s => (⟨zeroPage (z + s.Y), false⟩, s)
  | .abs w, s => (⟨w, false⟩, s)
  | .izx z, s =>
    let p := readZeroPagePointer (z + s.X) s
    (⟨p.1, false⟩, p.2)
  | .izy z, s =>
    let p := readZeroPagePointer z s
    (indexed p.1 s.Y, p.2)
  | .abx w, s => (indexed w s.X, s)
  | .aby w, s => (indexed w s.Y, s)

/-- The address that the high byte of an indirect jump's target comes from (R128): the start of the same page
when `INDIRECT_BUG` holds and the pointer ends in `0xFF`. -/
def indirectHighAddr (bug : Bool) (p : Addr) : Addr :=
  if bug && (p &&& 0x00FF#16) == 0x00FF#16 then p &&& 0xFF00#16 else p + 1

/-- The Indirect resolver, R128: the jump target. -/
def resolveIndirect (p : Addr) (s : State) : Addr × State :=
  let lo := memRead p s
  let hi := memRead (indirectHighAddr s.cfg.indirectBug p) lo.2
  (wordOf hi.1 lo.1, hi.2)

/-- The Relative resolver, R133: the target, and whether it lies in another page than the next instruction. -/
def resolveRelative (r : Byte) (s : State) : Resolved :=
  let target := s.PC + r.signExtend 16
  { addr := target, crossed := pageCrossed s.PC target }

/-! ## The shapes of an operation -/

/-- A read operation on an immediate: the value is the operand byte (R123). -/
def readImm (f : Byte → State → State) (v : Byte) (base : Nat) (s : State) : Host.Outcome State Fault Refusal :=
  complete base (f v s)

/-- A read operation on a byte of memory: one read, and one cycle more where the opcode is eligible and the
resolver reports a page cross (R136, R329). -/
def readMem (f : Byte → State → State) (m : MemOperand) (base : Nat) (eligible : Bool) (s : State) :
    Host.Outcome State Fault Refusal :=
  let r := resolve m s
  let v := memRead r.1.addr r.2
  complete (base + (eligible && r.1.crossed).toNat) (f v.1 v.2)

/-- A store operation: one write of the value, no read of the target, never a page-cross cycle (R136, R333). -/
def storeMem (value : State → Byte) (m : MemOperand) (base : Nat) (s : State) :
    Host.Outcome State Fault Refusal :=
  let r := resolve m s
  complete base (memWrite r.1.addr (value s) r.2)

/-- A read-modify-write operation on a byte of memory: one read, the byte's new value and the carry by `f`, one
write, then `g` on the value written (R136, R280). -/
def modifyMem (f : Byte → State → Byte × State) (g : Byte → State → State) (m : MemOperand) (base : Nat)
    (s : State) : Host.Outcome State Fault Refusal :=
  let r := resolve m s
  let v := memRead r.1.addr r.2
  let w := f v.1 v.2
  complete base (g w.1 (memWrite r.1.addr w.1 w.2))

/-- A read-modify-write operation on the accumulator (R122, R136). -/
def modifyA (f : Byte → State → Byte × State) (g : Byte → State → State) (base : Nat) (s : State) :
    Host.Outcome State Fault Refusal :=
  let w := f s.A s
  complete base (g w.1 { w.2 with A := w.1 })

/-- A conditional branch, R244: 2 cycles, 1 more when taken, 1 more again when the target is in another page. -/
def branch (cond : Bool) (r : Byte) (s : State) : Host.Outcome State Fault Refusal :=
  let t := resolveRelative r s
  if cond then complete (2 + (1 + t.crossed.toNat)) { s with PC := t.addr }
  else complete 2 s

end Sys2Proof.Machine
end

