-- ==== Sys2Proof/Machine/Arithmetic.lean ====
section
/-! DEFINITION. Arithmetic and compare (R181, R185, R188 to R190). -/

namespace Sys2Proof.Machine

/-! ### ADC -/

/-- R181: ADC, `69` IMM 2. -/
def execAdcImm (v : Byte) (s : State) : Host.Outcome State Fault Refusal :=
  readImm addToA v 2 s

/-- R181: ADC, `65` ZP 3. -/
def execAdcZp (z : Byte) (s : State) : Host.Outcome State Fault Refusal :=
  readMem addToA (.zp z) 3 false s

/-- R181: ADC, `75` ZPX 4. -/
def execAdcZpx (z : Byte) (s : State) : Host.Outcome State Fault Refusal :=
  readMem addToA (.zpx z) 4 false s

/-- R181: ADC, `6D` ABS 4. -/
def execAdcAbs (w : Addr) (s : State) : Host.Outcome State Fault Refusal :=
  readMem addToA (.abs w) 4 false s

/-- R181: ADC, `61` IZX 6. -/
def execAdcIzx (z : Byte) (s : State) : Host.Outcome State Fault Refusal :=
  readMem addToA (.izx z) 6 false s

/-- R181: ADC, `71` IZY 5+. -/
def execAdcIzy (z : Byte) (s : State) : Host.Outcome State Fault Refusal :=
  readMem addToA (.izy z) 5 true s

/-- R181: ADC, `7D` ABX 4+. -/
def execAdcAbx (w : Addr) (s : State) : Host.Outcome State Fault Refusal :=
  readMem addToA (.abx w) 4 true s

/-- R181: ADC, `79` ABY 4+. -/
def execAdcAby (w : Addr) (s : State) : Host.Outcome State Fault Refusal :=
  readMem addToA (.aby w) 4 true s

/-! ### SBC -/

/-- R185: SBC, `E9` IMM 2. -/
def execSbcImm (v : Byte) (s : State) : Host.Outcome State Fault Refusal :=
  readImm subtractFromA v 2 s

/-- R185: SBC, `E5` ZP 3. -/
def execSbcZp (z : Byte) (s : State) : Host.Outcome State Fault Refusal :=
  readMem subtractFromA (.zp z) 3 false s

/-- R185: SBC, `F5` ZPX 4. -/
def execSbcZpx (z : Byte) (s : State) : Host.Outcome State Fault Refusal :=
  readMem subtractFromA (.zpx z) 4 false s

/-- R185: SBC, `ED` ABS 4. -/
def execSbcAbs (w : Addr) (s : State) : Host.Outcome State Fault Refusal :=
  readMem subtractFromA (.abs w) 4 false s

/-- R185: SBC, `E1` IZX 6. -/
def execSbcIzx (z : Byte) (s : State) : Host.Outcome State Fault Refusal :=
  readMem subtractFromA (.izx z) 6 false s

/-- R185: SBC, `F1` IZY 5+. -/
def execSbcIzy (z : Byte) (s : State) : Host.Outcome State Fault Refusal :=
  readMem subtractFromA (.izy z) 5 true s

/-- R185: SBC, `FD` ABX 4+. -/
def execSbcAbx (w : Addr) (s : State) : Host.Outcome State Fault Refusal :=
  readMem subtractFromA (.abx w) 4 true s

/-- R185: SBC, `F9` ABY 4+. -/
def execSbcAby (w : Addr) (s : State) : Host.Outcome State Fault Refusal :=
  readMem subtractFromA (.aby w) 4 true s

/-! ### CMP -/

/-- R188: CMP, `C9` IMM 2. -/
def execCmpImm (v : Byte) (s : State) : Host.Outcome State Fault Refusal :=
  readImm (fun m s => compare s.A m s) v 2 s

/-- R188: CMP, `C5` ZP 3. -/
def execCmpZp (z : Byte) (s : State) : Host.Outcome State Fault Refusal :=
  readMem (fun m s => compare s.A m s) (.zp z) 3 false s

/-- R188: CMP, `D5` ZPX 4. -/
def execCmpZpx (z : Byte) (s : State) : Host.Outcome State Fault Refusal :=
  readMem (fun m s => compare s.A m s) (.zpx z) 4 false s

/-- R188: CMP, `CD` ABS 4. -/
def execCmpAbs (w : Addr) (s : State) : Host.Outcome State Fault Refusal :=
  readMem (fun m s => compare s.A m s) (.abs w) 4 false s

/-- R188: CMP, `C1` IZX 6. -/
def execCmpIzx (z : Byte) (s : State) : Host.Outcome State Fault Refusal :=
  readMem (fun m s => compare s.A m s) (.izx z) 6 false s

/-- R188: CMP, `D1` IZY 5+. -/
def execCmpIzy (z : Byte) (s : State) : Host.Outcome State Fault Refusal :=
  readMem (fun m s => compare s.A m s) (.izy z) 5 true s

/-- R188: CMP, `DD` ABX 4+. -/
def execCmpAbx (w : Addr) (s : State) : Host.Outcome State Fault Refusal :=
  readMem (fun m s => compare s.A m s) (.abx w) 4 true s

/-- R188: CMP, `D9` ABY 4+. -/
def execCmpAby (w : Addr) (s : State) : Host.Outcome State Fault Refusal :=
  readMem (fun m s => compare s.A m s) (.aby w) 4 true s

/-! ### CPX -/

/-- R189: CPX, `E0` IMM 2. -/
def execCpxImm (v : Byte) (s : State) : Host.Outcome State Fault Refusal :=
  readImm (fun m s => compare s.X m s) v 2 s

/-- R189: CPX, `E4` ZP 3. -/
def execCpxZp (z : Byte) (s : State) : Host.Outcome State Fault Refusal :=
  readMem (fun m s => compare s.X m s) (.zp z) 3 false s

/-- R189: CPX, `EC` ABS 4. -/
def execCpxAbs (w : Addr) (s : State) : Host.Outcome State Fault Refusal :=
  readMem (fun m s => compare s.X m s) (.abs w) 4 false s

/-! ### CPY -/

/-- R190: CPY, `C0` IMM 2. -/
def execCpyImm (v : Byte) (s : State) : Host.Outcome State Fault Refusal :=
  readImm (fun m s => compare s.Y m s) v 2 s

/-- R190: CPY, `C4` ZP 3. -/
def execCpyZp (z : Byte) (s : State) : Host.Outcome State Fault Refusal :=
  readMem (fun m s => compare s.Y m s) (.zp z) 3 false s

/-- R190: CPY, `CC` ABS 4. -/
def execCpyAbs (w : Addr) (s : State) : Host.Outcome State Fault Refusal :=
  readMem (fun m s => compare s.Y m s) (.abs w) 4 false s

end Sys2Proof.Machine
end

