-- ==== Sys2Proof/Machine/Control.lean ====
section
/-! DEFINITION. Jumps, subroutines and branches (R240 to R252). -/

namespace Sys2Proof.Machine

/-! ### JMP -/

/-- R240: JMP, `4C` ABS 3. -/
def execJmpAbs (w : Addr) (s : State) : Host.Outcome State Fault Refusal :=
  let t := resolve (.abs w) s
  complete 3 { t.2 with PC := t.1.addr }

/-- R241: JMP, `6C` IND 5. -/
def execJmpInd (p : Addr) (s : State) : Host.Outcome State Fault Refusal :=
  let t := resolveIndirect p s
  complete 5 { t.2 with PC := t.1 }

/-- R242: JSR, `20` ABS 6; the address of its own last byte is pushed, high byte first. -/
def execJsr (w : Addr) (s : State) : Host.Outcome State Fault Refusal :=
  let t := resolve (.abs w) s
  let s := push16 (t.2.PC - 1) t.2
  complete 6 { s with PC := t.1.addr }

/-- R243: RTS, `60` IMP 6; the pulled address plus one. -/
def execRts (s : State) : Host.Outcome State Fault Refusal :=
  let w := pull16 s
  complete 6 { w.2 with PC := w.1 + 1 }

/-- R245: BPL, `10` REL 2b. -/
def execBpl (r : Byte) (s : State) : Host.Outcome State Fault Refusal :=
  branch (!s.N) r s

/-- R246: BMI, `30` REL 2b. -/
def execBmi (r : Byte) (s : State) : Host.Outcome State Fault Refusal :=
  branch s.N r s

/-- R247: BVC, `50` REL 2b. -/
def execBvc (r : Byte) (s : State) : Host.Outcome State Fault Refusal :=
  branch (!s.V) r s

/-- R248: BVS, `70` REL 2b. -/
def execBvs (r : Byte) (s : State) : Host.Outcome State Fault Refusal :=
  branch s.V r s

/-- R249: BCC, `90` REL 2b. -/
def execBcc (r : Byte) (s : State) : Host.Outcome State Fault Refusal :=
  branch (!s.C) r s

/-- R250: BCS, `B0` REL 2b. -/
def execBcs (r : Byte) (s : State) : Host.Outcome State Fault Refusal :=
  branch s.C r s

/-- R251: BNE, `D0` REL 2b. -/
def execBne (r : Byte) (s : State) : Host.Outcome State Fault Refusal :=
  branch (!s.Z) r s

/-- R252: BEQ, `F0` REL 2b. -/
def execBeq (r : Byte) (s : State) : Host.Outcome State Fault Refusal :=
  branch s.Z r s

end Sys2Proof.Machine
end

