-- ==== Sys2Proof/Machine/FlagOps.lean ====
section
/-! DEFINITION. Flag instructions and NOP (R270 to R277). -/

namespace Sys2Proof.Machine

/-- R270: CLC, `18` IMP 2. -/
def execClc (s : State) : Host.Outcome State Fault Refusal :=
  complete 2 { s with C := false }

/-- R271: SEC, `38` IMP 2. -/
def execSec (s : State) : Host.Outcome State Fault Refusal :=
  complete 2 { s with C := true }

/-- R272: CLI, `58` IMP 2. -/
def execCli (s : State) : Host.Outcome State Fault Refusal :=
  complete 2 { s with I := false }

/-- R273: SEI, `78` IMP 2. -/
def execSei (s : State) : Host.Outcome State Fault Refusal :=
  complete 2 { s with I := true }

/-- R274: CLD, `D8` IMP 2. -/
def execCld (s : State) : Host.Outcome State Fault Refusal :=
  complete 2 { s with D := false }

/-- R275: SED, `F8` IMP 2. -/
def execSed (s : State) : Host.Outcome State Fault Refusal :=
  complete 2 { s with D := true }

/-- R276: CLV, `B8` IMP 2. -/
def execClv (s : State) : Host.Outcome State Fault Refusal :=
  complete 2 { s with V := false }

/-- R277: NOP, `EA` IMP 2. -/
def execNop (s : State) : Host.Outcome State Fault Refusal :=
  complete 2 s

end Sys2Proof.Machine
end

