-- ==== Sys2Proof/Machine/Interrupt.lean ====
section
/-! DEFINITION. BRK and RTI (R353, R354, R360). -/

namespace Sys2Proof.Machine

/-- R353: BRK, `00` IMP 7; the signature byte is skipped without being read. -/
def execBrk (s : State) : Host.Outcome State Fault Refusal :=
  let s := { s with PC := s.PC + 1 }
  complete 7 (enterInterrupt brkVector (statusWithBreak s) s)

/-- R360: RTI, `40` IMP 6. -/
def execRti (s : State) : Host.Outcome State Fault Refusal :=
  complete 6 (returnFromInterrupt s)

end Sys2Proof.Machine
end

