-- ==== Sys2Proof/Machine/LoadStore.lean ====
section
/-! DEFINITION. Loads, stores, register transfers and stack instructions (R150 to R161, R165 to R168). -/

namespace Sys2Proof.Machine

/-- `A <- m; UpdateZN(m)` (R150). -/
def loadA (m : Byte) (s : State) : State := updateZN m { s with A := m }

/-- `X <- m; UpdateZN(m)` (R151). -/
def loadX (m : Byte) (s : State) : State := updateZN m { s with X := m }

/-- `Y <- m; UpdateZN(m)` (R152). -/
def loadY (m : Byte) (s : State) : State := updateZN m { s with Y := m }

/-! ### LDA -/

/-- R150: LDA, `A9` IMM 2. -/
def execLdaImm (v : Byte) (s : State) : Host.Outcome State Fault Refusal :=
  readImm loadA v 2 s

/-- R150: LDA, `A5` ZP 3. -/
def execLdaZp (z : Byte) (s : State) : Host.Outcome State Fault Refusal :=
  readMem loadA (.zp z) 3 false s

/-- R150: LDA, `B5` ZPX 4. -/
def execLdaZpx (z : Byte) (s : State) : Host.Outcome State Fault Refusal :=
  readMem loadA (.zpx z) 4 false s

/-- R150: LDA, `AD` ABS 4. -/
def execLdaAbs (w : Addr) (s : State) : Host.Outcome State Fault Refusal :=
  readMem loadA (.abs w) 4 false s

/-- R150: LDA, `A1` IZX 6. -/
def execLdaIzx (z : Byte) (s : State) : Host.Outcome State Fault Refusal :=
  readMem loadA (.izx z) 6 false s

/-- R150: LDA, `B1` IZY 5+. -/
def execLdaIzy (z : Byte) (s : State) : Host.Outcome State Fault Refusal :=
  readMem loadA (.izy z) 5 true s

/-- R150: LDA, `BD` ABX 4+. -/
def execLdaAbx (w : Addr) (s : State) : Host.Outcome State Fault Refusal :=
  readMem loadA (.abx w) 4 true s

/-- R150: LDA, `B9` ABY 4+. -/
def execLdaAby (w : Addr) (s : State) : Host.Outcome State Fault Refusal :=
  readMem loadA (.aby w) 4 true s

/-! ### LDX -/

/-- R151: LDX, `A2` IMM 2. -/
def execLdxImm (v : Byte) (s : State) : Host.Outcome State Fault Refusal :=
  readImm loadX v 2 s

/-- R151: LDX, `A6` ZP 3. -/
def execLdxZp (z : Byte) (s : State) : Host.Outcome State Fault Refusal :=
  readMem loadX (.zp z) 3 false s

/-- R151: LDX, `B6` ZPY 4. -/
def execLdxZpy (z : Byte) (s : State) : Host.Outcome State Fault Refusal :=
  readMem loadX (.zpy z) 4 false s

/-- R151: LDX, `AE` ABS 4. -/
def execLdxAbs (w : Addr) (s : State) : Host.Outcome State Fault Refusal :=
  readMem loadX (.abs w) 4 false s

/-- R151: LDX, `BE` ABY 4+. -/
def execLdxAby (w : Addr) (s : State) : Host.Outcome State Fault Refusal :=
  readMem loadX (.aby w) 4 true s

/-! ### LDY -/

/-- R152: LDY, `A0` IMM 2. -/
def execLdyImm (v : Byte) (s : State) : Host.Outcome State Fault Refusal :=
  readImm loadY v 2 s

/-- R152: LDY, `A4` ZP 3. -/
def execLdyZp (z : Byte) (s : State) : Host.Outcome State Fault Refusal :=
  readMem loadY (.zp z) 3 false s

/-- R152: LDY, `B4` ZPX 4. -/
def execLdyZpx (z : Byte) (s : State) : Host.Outcome State Fault Refusal :=
  readMem loadY (.zpx z) 4 false s

/-- R152: LDY, `AC` ABS 4. -/
def execLdyAbs (w : Addr) (s : State) : Host.Outcome State Fault Refusal :=
  readMem loadY (.abs w) 4 false s

/-- R152: LDY, `BC` ABX 4+. -/
def execLdyAbx (w : Addr) (s : State) : Host.Outcome State Fault Refusal :=
  readMem loadY (.abx w) 4 true s

/-! ### STA -/

/-- R153: STA, `85` ZP 3. -/
def execStaZp (z : Byte) (s : State) : Host.Outcome State Fault Refusal :=
  storeMem (·.A) (.zp z) 3 s

/-- R153: STA, `95` ZPX 4. -/
def execStaZpx (z : Byte) (s : State) : Host.Outcome State Fault Refusal :=
  storeMem (·.A) (.zpx z) 4 s

/-- R153: STA, `8D` ABS 4. -/
def execStaAbs (w : Addr) (s : State) : Host.Outcome State Fault Refusal :=
  storeMem (·.A) (.abs w) 4 s

/-- R153: STA, `81` IZX 6. -/
def execStaIzx (z : Byte) (s : State) : Host.Outcome State Fault Refusal :=
  storeMem (·.A) (.izx z) 6 s

/-- R153: STA, `91` IZY 6. -/
def execStaIzy (z : Byte) (s : State) : Host.Outcome State Fault Refusal :=
  storeMem (·.A) (.izy z) 6 s

/-- R153: STA, `9D` ABX 5. -/
def execStaAbx (w : Addr) (s : State) : Host.Outcome State Fault Refusal :=
  storeMem (·.A) (.abx w) 5 s

/-- R153: STA, `99` ABY 5. -/
def execStaAby (w : Addr) (s : State) : Host.Outcome State Fault Refusal :=
  storeMem (·.A) (.aby w) 5 s

/-! ### STX -/

/-- R154: STX, `86` ZP 3. -/
def execStxZp (z : Byte) (s : State) : Host.Outcome State Fault Refusal :=
  storeMem (·.X) (.zp z) 3 s

/-- R154: STX, `96` ZPY 4. -/
def execStxZpy (z : Byte) (s : State) : Host.Outcome State Fault Refusal :=
  storeMem (·.X) (.zpy z) 4 s

/-- R154: STX, `8E` ABS 4. -/
def execStxAbs (w : Addr) (s : State) : Host.Outcome State Fault Refusal :=
  storeMem (·.X) (.abs w) 4 s

/-! ### STY -/

/-- R155: STY, `84` ZP 3. -/
def execStyZp (z : Byte) (s : State) : Host.Outcome State Fault Refusal :=
  storeMem (·.Y) (.zp z) 3 s

/-- R155: STY, `94` ZPX 4. -/
def execStyZpx (z : Byte) (s : State) : Host.Outcome State Fault Refusal :=
  storeMem (·.Y) (.zpx z) 4 s

/-- R155: STY, `8C` ABS 4. -/
def execStyAbs (w : Addr) (s : State) : Host.Outcome State Fault Refusal :=
  storeMem (·.Y) (.abs w) 4 s

/-- R156: TAX, `AA` IMP 2. -/
def execTax (s : State) : Host.Outcome State Fault Refusal :=
  complete 2 (loadX s.A s)

/-- R157: TAY, `A8` IMP 2. -/
def execTay (s : State) : Host.Outcome State Fault Refusal :=
  complete 2 (loadY s.A s)

/-- R158: TXA, `8A` IMP 2. -/
def execTxa (s : State) : Host.Outcome State Fault Refusal :=
  complete 2 (loadA s.X s)

/-- R159: TYA, `98` IMP 2. -/
def execTya (s : State) : Host.Outcome State Fault Refusal :=
  complete 2 (loadA s.Y s)

/-- R160: TSX, `BA` IMP 2. -/
def execTsx (s : State) : Host.Outcome State Fault Refusal :=
  complete 2 (loadX s.S s)

/-- R161: TXS, `9A` IMP 2; no flag is written. -/
def execTxs (s : State) : Host.Outcome State Fault Refusal :=
  complete 2 { s with S := s.X }

/-- R165: PHA, `48` IMP 3. -/
def execPha (s : State) : Host.Outcome State Fault Refusal :=
  complete 3 (push8 s.A s)

/-- R166: PHP, `08` IMP 3; bits 5 and 4 of the pushed byte are 1. -/
def execPhp (s : State) : Host.Outcome State Fault Refusal :=
  complete 3 (push8 (statusWithBreak s) s)

/-- R167: PLA, `68` IMP 4. -/
def execPla (s : State) : Host.Outcome State Fault Refusal :=
  let m := pull8 s
  complete 4 (loadA m.1 m.2)

/-- R168: PLP, `28` IMP 4; all seven flags from the pulled byte. -/
def execPlp (s : State) : Host.Outcome State Fault Refusal :=
  let b := pull8 s
  complete 4 (unpackStatus b.1 b.2)

end Sys2Proof.Machine
end

