-- ==== Sys2Proof/Machine/Logic.lean ====
section
/-! DEFINITION. Logic, bit test, increment and decrement (R200 to R209). -/

namespace Sys2Proof.Machine

/-- `A <- A & m; UpdateZN(A)` (R200). -/
def andA (m : Byte) (s : State) : State := updateZN (s.A &&& m) { s with A := s.A &&& m }

/-- `A <- A | m; UpdateZN(A)` (R201). -/
def orA (m : Byte) (s : State) : State := updateZN (s.A ||| m) { s with A := s.A ||| m }

/-- `A <- A ^ m; UpdateZN(A)` (R202). -/
def xorA (m : Byte) (s : State) : State := updateZN (s.A ^^^ m) { s with A := s.A ^^^ m }

/-- The bit test (R203): `Z` from the conjunction, `N` and `V` from bits 7 and 6 of the operand. -/
def bitTest (m : Byte) (s : State) : State :=
  { s with Z := (s.A &&& m) == 0#8, N := m.getLsbD 7, V := m.getLsbD 6 }

/-- `(m + 1) mod 256` (R204); it writes no flag. -/
def increment (m : Byte) (s : State) : Byte × State := (m + 1, s)

/-- `(m - 1) mod 256` (R205); it writes no flag. -/
def decrement (m : Byte) (s : State) : Byte × State := (m - 1, s)

/-! ### AND -/

/-- R200: AND, `29` IMM 2. -/
def execAndImm (v : Byte) (s : State) : Host.Outcome State Fault Refusal :=
  readImm andA v 2 s

/-- R200: AND, `25` ZP 3. -/
def execAndZp (z : Byte) (s : State) : Host.Outcome State Fault Refusal :=
  readMem andA (.zp z) 3 false s

/-- R200: AND, `35` ZPX 4. -/
def execAndZpx (z : Byte) (s : State) : Host.Outcome State Fault Refusal :=
  readMem andA (.zpx z) 4 false s

/-- R200: AND, `2D` ABS 4. -/
def execAndAbs (w : Addr) (s : State) : Host.Outcome State Fault Refusal :=
  readMem andA (.abs w) 4 false s

/-- R200: AND, `21` IZX 6. -/
def execAndIzx (z : Byte) (s : State) : Host.Outcome State Fault Refusal :=
  readMem andA (.izx z) 6 false s

/-- R200: AND, `31` IZY 5+. -/
def execAndIzy (z : Byte) (s : State) : Host.Outcome State Fault Refusal :=
  readMem andA (.izy z) 5 true s

/-- R200: AND, `3D` ABX 4+. -/
def execAndAbx (w : Addr) (s : State) : Host.Outcome State Fault Refusal :=
  readMem andA (.abx w) 4 true s

/-- R200: AND, `39` ABY 4+. -/
def execAndAby (w : Addr) (s : State) : Host.Outcome State Fault Refusal :=
  readMem andA (.aby w) 4 true s

/-! ### ORA -/

/-- R201: ORA, `09` IMM 2. -/
def execOraImm (v : Byte) (s : State) : Host.Outcome State Fault Refusal :=
  readImm orA v 2 s

/-- R201: ORA, `05` ZP 3. -/
def execOraZp (z : Byte) (s : State) : Host.Outcome State Fault Refusal :=
  readMem orA (.zp z) 3 false s

/-- R201: ORA, `15` ZPX 4. -/
def execOraZpx (z : Byte) (s : State) : Host.Outcome State Fault Refusal :=
  readMem orA (.zpx z) 4 false s

/-- R201: ORA, `0D` ABS 4. -/
def execOraAbs (w : Addr) (s : State) : Host.Outcome State Fault Refusal :=
  readMem orA (.abs w) 4 false s

/-- R201: ORA, `01` IZX 6. -/
def execOraIzx (z : Byte) (s : State) : Host.Outcome State Fault Refusal :=
  readMem orA (.izx z) 6 false s

/-- R201: ORA, `11` IZY 5+. -/
def execOraIzy (z : Byte) (s : State) : Host.Outcome State Fault Refusal :=
  readMem orA (.izy z) 5 true s

/-- R201: ORA, `1D` ABX 4+. -/
def execOraAbx (w : Addr) (s : State) : Host.Outcome State Fault Refusal :=
  readMem orA (.abx w) 4 true s

/-- R201: ORA, `19` ABY 4+. -/
def execOraAby (w : Addr) (s : State) : Host.Outcome State Fault Refusal :=
  readMem orA (.aby w) 4 true s

/-! ### EOR -/

/-- R202: EOR, `49` IMM 2. -/
def execEorImm (v : Byte) (s : State) : Host.Outcome State Fault Refusal :=
  readImm xorA v 2 s

/-- R202: EOR, `45` ZP 3. -/
def execEorZp (z : Byte) (s : State) : Host.Outcome State Fault Refusal :=
  readMem xorA (.zp z) 3 false s

/-- R202: EOR, `55` ZPX 4. -/
def execEorZpx (z : Byte) (s : State) : Host.Outcome State Fault Refusal :=
  readMem xorA (.zpx z) 4 false s

/-- R202: EOR, `4D` ABS 4. -/
def execEorAbs (w : Addr) (s : State) : Host.Outcome State Fault Refusal :=
  readMem xorA (.abs w) 4 false s

/-- R202: EOR, `41` IZX 6. -/
def execEorIzx (z : Byte) (s : State) : Host.Outcome State Fault Refusal :=
  readMem xorA (.izx z) 6 false s

/-- R202: EOR, `51` IZY 5+. -/
def execEorIzy (z : Byte) (s : State) : Host.Outcome State Fault Refusal :=
  readMem xorA (.izy z) 5 true s

/-- R202: EOR, `5D` ABX 4+. -/
def execEorAbx (w : Addr) (s : State) : Host.Outcome State Fault Refusal :=
  readMem xorA (.abx w) 4 true s

/-- R202: EOR, `59` ABY 4+. -/
def execEorAby (w : Addr) (s : State) : Host.Outcome State Fault Refusal :=
  readMem xorA (.aby w) 4 true s

/-! ### BIT -/

/-- R203: BIT, `24` ZP 3. -/
def execBitZp (z : Byte) (s : State) : Host.Outcome State Fault Refusal :=
  readMem bitTest (.zp z) 3 false s

/-- R203: BIT, `2C` ABS 4. -/
def execBitAbs (w : Addr) (s : State) : Host.Outcome State Fault Refusal :=
  readMem bitTest (.abs w) 4 false s

/-! ### INC -/

/-- R204: INC, `E6` ZP 5. -/
def execIncZp (z : Byte) (s : State) : Host.Outcome State Fault Refusal :=
  modifyMem increment updateZN (.zp z) 5 s

/-- R204: INC, `F6` ZPX 6. -/
def execIncZpx (z : Byte) (s : State) : Host.Outcome State Fault Refusal :=
  modifyMem increment updateZN (.zpx z) 6 s

/-- R204: INC, `EE` ABS 6. -/
def execIncAbs (w : Addr) (s : State) : Host.Outcome State Fault Refusal :=
  modifyMem increment updateZN (.abs w) 6 s

/-- R204: INC, `FE` ABX 7. -/
def execIncAbx (w : Addr) (s : State) : Host.Outcome State Fault Refusal :=
  modifyMem increment updateZN (.abx w) 7 s

/-! ### DEC -/

/-- R205: DEC, `C6` ZP 5. -/
def execDecZp (z : Byte) (s : State) : Host.Outcome State Fault Refusal :=
  modifyMem decrement updateZN (.zp z) 5 s

/-- R205: DEC, `D6` ZPX 6. -/
def execDecZpx (z : Byte) (s : State) : Host.Outcome State Fault Refusal :=
  modifyMem decrement updateZN (.zpx z) 6 s

/-- R205: DEC, `CE` ABS 6. -/
def execDecAbs (w : Addr) (s : State) : Host.Outcome State Fault Refusal :=
  modifyMem decrement updateZN (.abs w) 6 s

/-- R205: DEC, `DE` ABX 7. -/
def execDecAbx (w : Addr) (s : State) : Host.Outcome State Fault Refusal :=
  modifyMem decrement updateZN (.abx w) 7 s

/-- R206: INX, `E8` IMP 2. -/
def execInx (s : State) : Host.Outcome State Fault Refusal :=
  complete 2 (loadX (s.X + 1) s)

/-- R207: INY, `C8` IMP 2. -/
def execIny (s : State) : Host.Outcome State Fault Refusal :=
  complete 2 (loadY (s.Y + 1) s)

/-- R208: DEX, `CA` IMP 2. -/
def execDex (s : State) : Host.Outcome State Fault Refusal :=
  complete 2 (loadX (s.X - 1) s)

/-- R209: DEY, `88` IMP 2. -/
def execDey (s : State) : Host.Outcome State Fault Refusal :=
  complete 2 (loadY (s.Y - 1) s)

end Sys2Proof.Machine
end

