-- ==== Sys2Proof/Machine/Shift.lean ====
section
/-! DEFINITION. Shifts and rotates (R230 to R234). -/

namespace Sys2Proof.Machine

/-- `C <- m[7]; r <- (m << 1) mod 256` (R231). -/
def shiftLeft (m : Byte) (s : State) : Byte × State := (m <<< 1, { s with C := m.getLsbD 7 })

/-- `C <- m[0]; r <- m >> 1` (R232). -/
def shiftRight (m : Byte) (s : State) : Byte × State := (m >>> 1, { s with C := m.getLsbD 0 })

/-- `r <- ((m << 1) | C) mod 256; C <- m[7]` (R233): the prior carry enters bit 0. -/
def rotateLeft (m : Byte) (s : State) : Byte × State :=
  ((m <<< 1) ||| flagBit s.C 0, { s with C := m.getLsbD 7 })

/-- `r <- (m >> 1) | (C << 7); C <- m[0]` (R234): the prior carry enters bit 7. -/
def rotateRight (m : Byte) (s : State) : Byte × State :=
  ((m >>> 1) ||| flagBit s.C 7, { s with C := m.getLsbD 0 })

/-! ### ASL -/

/-- R231: ASL, `0A` ACC 2. -/
def execAslAcc (s : State) : Host.Outcome State Fault Refusal :=
  modifyA shiftLeft updateZN 2 s

/-- R231: ASL, `06` ZP 5. -/
def execAslZp (z : Byte) (s : State) : Host.Outcome State Fault Refusal :=
  modifyMem shiftLeft updateZN (.zp z) 5 s

/-- R231: ASL, `16` ZPX 6. -/
def execAslZpx (z : Byte) (s : State) : Host.Outcome State Fault Refusal :=
  modifyMem shiftLeft updateZN (.zpx z) 6 s

/-- R231: ASL, `0E` ABS 6. -/
def execAslAbs (w : Addr) (s : State) : Host.Outcome State Fault Refusal :=
  modifyMem shiftLeft updateZN (.abs w) 6 s

/-- R231: ASL, `1E` ABX 7. -/
def execAslAbx (w : Addr) (s : State) : Host.Outcome State Fault Refusal :=
  modifyMem shiftLeft updateZN (.abx w) 7 s

/-! ### LSR -/

/-- R232: LSR, `4A` ACC 2. -/
def execLsrAcc (s : State) : Host.Outcome State Fault Refusal :=
  modifyA shiftRight updateZN 2 s

/-- R232: LSR, `46` ZP 5. -/
def execLsrZp (z : Byte) (s : State) : Host.Outcome State Fault Refusal :=
  modifyMem shiftRight updateZN (.zp z) 5 s

/-- R232: LSR, `56` ZPX 6. -/
def execLsrZpx (z : Byte) (s : State) : Host.Outcome State Fault Refusal :=
  modifyMem shiftRight updateZN (.zpx z) 6 s

/-- R232: LSR, `4E` ABS 6. -/
def execLsrAbs (w : Addr) (s : State) : Host.Outcome State Fault Refusal :=
  modifyMem shiftRight updateZN (.abs w) 6 s

/-- R232: LSR, `5E` ABX 7. -/
def execLsrAbx (w : Addr) (s : State) : Host.Outcome State Fault Refusal :=
  modifyMem shiftRight updateZN (.abx w) 7 s

/-! ### ROL -/

/-- R233: ROL, `2A` ACC 2. -/
def execRolAcc (s : State) : Host.Outcome State Fault Refusal :=
  modifyA rotateLeft updateZN 2 s

/-- R233: ROL, `26` ZP 5. -/
def execRolZp (z : Byte) (s : State) : Host.Outcome State Fault Refusal :=
  modifyMem rotateLeft updateZN (.zp z) 5 s

/-- R233: ROL, `36` ZPX 6. -/
def execRolZpx (z : Byte) (s : State) : Host.Outcome State Fault Refusal :=
  modifyMem rotateLeft updateZN (.zpx z) 6 s

/-- R233: ROL, `2E` ABS 6. -/
def execRolAbs (w : Addr) (s : State) : Host.Outcome State Fault Refusal :=
  modifyMem rotateLeft updateZN (.abs w) 6 s

/-- R233: ROL, `3E` ABX 7. -/
def execRolAbx (w : Addr) (s : State) : Host.Outcome State Fault Refusal :=
  modifyMem rotateLeft updateZN (.abx w) 7 s

/-! ### ROR -/

/-- R234: ROR, `6A` ACC 2. -/
def execRorAcc (s : State) : Host.Outcome State Fault Refusal :=
  modifyA rotateRight updateZN 2 s

/-- R234: ROR, `66` ZP 5. -/
def execRorZp (z : Byte) (s : State) : Host.Outcome State Fault Refusal :=
  modifyMem rotateRight updateZN (.zp z) 5 s

/-- R234: ROR, `76` ZPX 6. -/
def execRorZpx (z : Byte) (s : State) : Host.Outcome State Fault Refusal :=
  modifyMem rotateRight updateZN (.zpx z) 6 s

/-- R234: ROR, `6E` ABS 6. -/
def execRorAbs (w : Addr) (s : State) : Host.Outcome State Fault Refusal :=
  modifyMem rotateRight updateZN (.abs w) 6 s

/-- R234: ROR, `7E` ABX 7. -/
def execRorAbx (w : Addr) (s : State) : Host.Outcome State Fault Refusal :=
  modifyMem rotateRight updateZN (.abx w) 7 s

end Sys2Proof.Machine
end

