-- ==== Sys2Proof/Machine/Undocumented.lean ====
section
/-! DEFINITION. Undocumented opcodes and halt opcodes (R280 to R299). -/

namespace Sys2Proof.Machine

/-- `A <- m; X <- m; UpdateZN(m)` (R281). -/
def loadAX (m : Byte) (s : State) : State := updateZN m { s with A := m, X := m }

/-- AND, then `C <- N` (R289). -/
def andCopyN (m : Byte) (s : State) : State :=
  let s := andA m s
  { s with C := s.N }

/-- AND, then LSR A (R290). -/
def andShiftRight (m : Byte) (s : State) : State :=
  let w := shiftRight (s.A &&& m) s
  updateZN w.1 { w.2 with A := w.1 }

/-- AND, then ROR A, with `C` from bit 6 of the result and `V` from bits 6 and 5 (R291); `D` is ignored. -/
def andRotateRight (m : Byte) (s : State) : State :=
  let r := (rotateRight (s.A &&& m) s).1
  let s := updateZN r { s with A := r }
  { s with C := r.getLsbD 6, V := r.getLsbD 6 ^^ r.getLsbD 5 }

/-- TXA, then AND (R292). -/
def transferAnd (m : Byte) (s : State) : State := updateZN (s.X &&& m) { s with A := s.X &&& m }

/-- `X <- (A & X) - m`, with the flags of `Compare(A & X, m)` (R293). -/
def subtractIntoX (m : Byte) (s : State) : State :=
  let t := difference9 (s.A &&& s.X) m
  compare (s.A &&& s.X) m { s with X := BitVec.ofNat 8 t }

/-- The value that SHX and SHY store: the register and the high byte of the operand word plus one (R294, R295). -/
def highByteMask (reg : Byte) (base : Addr) : Byte := reg &&& (highByte base + 1)

/-- The read of an undocumented NOP: the value is discarded (R296). -/
def discard (_m : Byte) (s : State) : State := s

/-! ### LAX* -/

/-- R281: LAX*, `A7` ZP 3. -/
def execLaxZp (z : Byte) (s : State) : Host.Outcome State Fault Refusal :=
  readMem loadAX (.zp z) 3 false s

/-- R281: LAX*, `B7` ZPY 4. -/
def execLaxZpy (z : Byte) (s : State) : Host.Outcome State Fault Refusal :=
  readMem loadAX (.zpy z) 4 false s

/-- R281: LAX*, `AF` ABS 4. -/
def execLaxAbs (w : Addr) (s : State) : Host.Outcome State Fault Refusal :=
  readMem loadAX (.abs w) 4 false s

/-- R281: LAX*, `A3` IZX 6. -/
def execLaxIzx (z : Byte) (s : State) : Host.Outcome State Fault Refusal :=
  readMem loadAX (.izx z) 6 false s

/-- R281: LAX*, `B3` IZY 5+. -/
def execLaxIzy (z : Byte) (s : State) : Host.Outcome State Fault Refusal :=
  readMem loadAX (.izy z) 5 true s

/-- R281: LAX*, `BF` ABY 4+. -/
def execLaxAby (w : Addr) (s : State) : Host.Outcome State Fault Refusal :=
  readMem loadAX (.aby w) 4 true s

/-! ### SAX* -/

/-- R282: SAX*, `87` ZP 3. -/
def execSaxZp (z : Byte) (s : State) : Host.Outcome State Fault Refusal :=
  storeMem (fun s => s.A &&& s.X) (.zp z) 3 s

/-- R282: SAX*, `97` ZPY 4. -/
def execSaxZpy (z : Byte) (s : State) : Host.Outcome State Fault Refusal :=
  storeMem (fun s => s.A &&& s.X) (.zpy z) 4 s

/-- R282: SAX*, `8F` ABS 4. -/
def execSaxAbs (w : Addr) (s : State) : Host.Outcome State Fault Refusal :=
  storeMem (fun s => s.A &&& s.X) (.abs w) 4 s

/-- R282: SAX*, `83` IZX 6. -/
def execSaxIzx (z : Byte) (s : State) : Host.Outcome State Fault Refusal :=
  storeMem (fun s => s.A &&& s.X) (.izx z) 6 s

/-! ### SLO* -/

/-- R283: SLO*, `07` ZP 5. -/
def execSloZp (z : Byte) (s : State) : Host.Outcome State Fault Refusal :=
  modifyMem shiftLeft orA (.zp z) 5 s

/-- R283: SLO*, `17` ZPX 6. -/
def execSloZpx (z : Byte) (s : State) : Host.Outcome State Fault Refusal :=
  modifyMem shiftLeft orA (.zpx z) 6 s

/-- R283: SLO*, `0F` ABS 6. -/
def execSloAbs (w : Addr) (s : State) : Host.Outcome State Fault Refusal :=
  modifyMem shiftLeft orA (.abs w) 6 s

/-- R283: SLO*, `03` IZX 8. -/
def execSloIzx (z : Byte) (s : State) : Host.Outcome State Fault Refusal :=
  modifyMem shiftLeft orA (.izx z) 8 s

/-- R283: SLO*, `13` IZY 8. -/
def execSloIzy (z : Byte) (s : State) : Host.Outcome State Fault Refusal :=
  modifyMem shiftLeft orA (.izy z) 8 s

/-- R283: SLO*, `1F` ABX 7. -/
def execSloAbx (w : Addr) (s : State) : Host.Outcome State Fault Refusal :=
  modifyMem shiftLeft orA (.abx w) 7 s

/-- R283: SLO*, `1B` ABY 7. -/
def execSloAby (w : Addr) (s : State) : Host.Outcome State Fault Refusal :=
  modifyMem shiftLeft orA (.aby w) 7 s

/-! ### RLA* -/

/-- R284: RLA*, `27` ZP 5. -/
def execRlaZp (z : Byte) (s : State) : Host.Outcome State Fault Refusal :=
  modifyMem rotateLeft andA (.zp z) 5 s

/-- R284: RLA*, `37` ZPX 6. -/
def execRlaZpx (z : Byte) (s : State) : Host.Outcome State Fault Refusal :=
  modifyMem rotateLeft andA (.zpx z) 6 s

/-- R284: RLA*, `2F` ABS 6. -/
def execRlaAbs (w : Addr) (s : State) : Host.Outcome State Fault Refusal :=
  modifyMem rotateLeft andA (.abs w) 6 s

/-- R284: RLA*, `23` IZX 8. -/
def execRlaIzx (z : Byte) (s : State) : Host.Outcome State Fault Refusal :=
  modifyMem rotateLeft andA (.izx z) 8 s

/-- R284: RLA*, `33` IZY 8. -/
def execRlaIzy (z : Byte) (s : State) : Host.Outcome State Fault Refusal :=
  modifyMem rotateLeft andA (.izy z) 8 s

/-- R284: RLA*, `3F` ABX 7. -/
def execRlaAbx (w : Addr) (s : State) : Host.Outcome State Fault Refusal :=
  modifyMem rotateLeft andA (.abx w) 7 s

/-- R284: RLA*, `3B` ABY 7. -/
def execRlaAby (w : Addr) (s : State) : Host.Outcome State Fault Refusal :=
  modifyMem rotateLeft andA (.aby w) 7 s

/-! ### SRE* -/

/-- R285: SRE*, `47` ZP 5. -/
def execSreZp (z : Byte) (s : State) : Host.Outcome State Fault Refusal :=
  modifyMem shiftRight xorA (.zp z) 5 s

/-- R285: SRE*, `57` ZPX 6. -/
def execSreZpx (z : Byte) (s : State) : Host.Outcome State Fault Refusal :=
  modifyMem shiftRight xorA (.zpx z) 6 s

/-- R285: SRE*, `4F` ABS 6. -/
def execSreAbs (w : Addr) (s : State) : Host.Outcome State Fault Refusal :=
  modifyMem shiftRight xorA (.abs w) 6 s

/-- R285: SRE*, `43` IZX 8. -/
def execSreIzx (z : Byte) (s : State) : Host.Outcome State Fault Refusal :=
  modifyMem shiftRight xorA (.izx z) 8 s

/-- R285: SRE*, `53` IZY 8. -/
def execSreIzy (z : Byte) (s : State) : Host.Outcome State Fault Refusal :=
  modifyMem shiftRight xorA (.izy z) 8 s

/-- R285: SRE*, `5F` ABX 7. -/
def execSreAbx (w : Addr) (s : State) : Host.Outcome State Fault Refusal :=
  modifyMem shiftRight xorA (.abx w) 7 s

/-- R285: SRE*, `5B` ABY 7. -/
def execSreAby (w : Addr) (s : State) : Host.Outcome State Fault Refusal :=
  modifyMem shiftRight xorA (.aby w) 7 s

/-! ### RRA* -/

/-- R286: RRA*, `67` ZP 5. -/
def execRraZp (z : Byte) (s : State) : Host.Outcome State Fault Refusal :=
  modifyMem rotateRight addToA (.zp z) 5 s

/-- R286: RRA*, `77` ZPX 6. -/
def execRraZpx (z : Byte) (s : State) : Host.Outcome State Fault Refusal :=
  modifyMem rotateRight addToA (.zpx z) 6 s

/-- R286: RRA*, `6F` ABS 6. -/
def execRraAbs (w : Addr) (s : State) : Host.Outcome State Fault Refusal :=
  modifyMem rotateRight addToA (.abs w) 6 s

/-- R286: RRA*, `63` IZX 8. -/
def execRraIzx (z : Byte) (s : State) : Host.Outcome State Fault Refusal :=
  modifyMem rotateRight addToA (.izx z) 8 s

/-- R286: RRA*, `73` IZY 8. -/
def execRraIzy (z : Byte) (s : State) : Host.Outcome State Fault Refusal :=
  modifyMem rotateRight addToA (.izy z) 8 s

/-- R286: RRA*, `7F` ABX 7. -/
def execRraAbx (w : Addr) (s : State) : Host.Outcome State Fault Refusal :=
  modifyMem rotateRight addToA (.abx w) 7 s

/-- R286: RRA*, `7B` ABY 7. -/
def execRraAby (w : Addr) (s : State) : Host.Outcome State Fault Refusal :=
  modifyMem rotateRight addToA (.aby w) 7 s

/-! ### DCP* -/

/-- R287: DCP*, `C7` ZP 5. -/
def execDcpZp (z : Byte) (s : State) : Host.Outcome State Fault Refusal :=
  modifyMem decrement (fun r s => compare s.A r s) (.zp z) 5 s

/-- R287: DCP*, `D7` ZPX 6. -/
def execDcpZpx (z : Byte) (s : State) : Host.Outcome State Fault Refusal :=
  modifyMem decrement (fun r s => compare s.A r s) (.zpx z) 6 s

/-- R287: DCP*, `CF` ABS 6. -/
def execDcpAbs (w : Addr) (s : State) : Host.Outcome State Fault Refusal :=
  modifyMem decrement (fun r s => compare s.A r s) (.abs w) 6 s

/-- R287: DCP*, `C3` IZX 8. -/
def execDcpIzx (z : Byte) (s : State) : Host.Outcome State Fault Refusal :=
  modifyMem decrement (fun r s => compare s.A r s) (.izx z) 8 s

/-- R287: DCP*, `D3` IZY 8. -/
def execDcpIzy (z : Byte) (s : State) : Host.Outcome State Fault Refusal :=
  modifyMem decrement (fun r s => compare s.A r s) (.izy z) 8 s

/-- R287: DCP*, `DF` ABX 7. -/
def execDcpAbx (w : Addr) (s : State) : Host.Outcome State Fault Refusal :=
  modifyMem decrement (fun r s => compare s.A r s) (.abx w) 7 s

/-- R287: DCP*, `DB` ABY 7. -/
def execDcpAby (w : Addr) (s : State) : Host.Outcome State Fault Refusal :=
  modifyMem decrement (fun r s => compare s.A r s) (.aby w) 7 s

/-! ### ISC* -/

/-- R288: ISC*, `E7` ZP 5. -/
def execIscZp (z : Byte) (s : State) : Host.Outcome State Fault Refusal :=
  modifyMem increment subtractFromA (.zp z) 5 s

/-- R288: ISC*, `F7` ZPX 6. -/
def execIscZpx (z : Byte) (s : State) : Host.Outcome State Fault Refusal :=
  modifyMem increment subtractFromA (.zpx z) 6 s

/-- R288: ISC*, `EF` ABS 6. -/
def execIscAbs (w : Addr) (s : State) : Host.Outcome State Fault Refusal :=
  modifyMem increment subtractFromA (.abs w) 6 s

/-- R288: ISC*, `E3` IZX 8. -/
def execIscIzx (z : Byte) (s : State) : Host.Outcome State Fault Refusal :=
  modifyMem increment subtractFromA (.izx z) 8 s

/-- R288: ISC*, `F3` IZY 8. -/
def execIscIzy (z : Byte) (s : State) : Host.Outcome State Fault Refusal :=
  modifyMem increment subtractFromA (.izy z) 8 s

/-- R288: ISC*, `FF` ABX 7. -/
def execIscAbx (w : Addr) (s : State) : Host.Outcome State Fault Refusal :=
  modifyMem increment subtractFromA (.abx w) 7 s

/-- R288: ISC*, `FB` ABY 7. -/
def execIscAby (w : Addr) (s : State) : Host.Outcome State Fault Refusal :=
  modifyMem increment subtractFromA (.aby w) 7 s

/-! ### ANC* -/

/-- R289: ANC*, `0B` IMM 2. -/
def execAncImm0B (v : Byte) (s : State) : Host.Outcome State Fault Refusal :=
  readImm andCopyN v 2 s

/-- R289: ANC*, `2B` IMM 2. -/
def execAncImm2B (v : Byte) (s : State) : Host.Outcome State Fault Refusal :=
  readImm andCopyN v 2 s

/-- R290: ALR*, `4B` IMM 2. -/
def execAlrImm (v : Byte) (s : State) : Host.Outcome State Fault Refusal :=
  readImm andShiftRight v 2 s

/-- R291: ARR*, `6B` IMM 2. -/
def execArrImm (v : Byte) (s : State) : Host.Outcome State Fault Refusal :=
  readImm andRotateRight v 2 s

/-- R292: XAA*, `8B` IMM 2. -/
def execXaaImm (v : Byte) (s : State) : Host.Outcome State Fault Refusal :=
  readImm transferAnd v 2 s

/-- R293: AXS*, `CB` IMM 2. -/
def execAxsImm (v : Byte) (s : State) : Host.Outcome State Fault Refusal :=
  readImm subtractIntoX v 2 s

/-- R294: SHX*, `9E` ABY 5. -/
def execShxAby (w : Addr) (s : State) : Host.Outcome State Fault Refusal :=
  storeMem (fun s => highByteMask s.X w) (.aby w) 5 s

/-- R295: SHY*, `9C` ABX 5. -/
def execShyAbx (w : Addr) (s : State) : Host.Outcome State Fault Refusal :=
  storeMem (fun s => highByteMask s.Y w) (.abx w) 5 s

/-! ### NOP* -/

/-- R296: NOP*, `1A` IMP 2. -/
def execNopImp1A (s : State) : Host.Outcome State Fault Refusal :=
  complete 2 s

/-- R296: NOP*, `3A` IMP 2. -/
def execNopImp3A (s : State) : Host.Outcome State Fault Refusal :=
  complete 2 s

/-- R296: NOP*, `5A` IMP 2. -/
def execNopImp5A (s : State) : Host.Outcome State Fault Refusal :=
  complete 2 s

/-- R296: NOP*, `7A` IMP 2. -/
def execNopImp7A (s : State) : Host.Outcome State Fault Refusal :=
  complete 2 s

/-- R296: NOP*, `DA` IMP 2. -/
def execNopImpDA (s : State) : Host.Outcome State Fault Refusal :=
  complete 2 s

/-- R296: NOP*, `FA` IMP 2. -/
def execNopImpFA (s : State) : Host.Outcome State Fault Refusal :=
  complete 2 s

/-- R296: NOP*, `80` IMM 2. -/
def execNopImm80 (v : Byte) (s : State) : Host.Outcome State Fault Refusal :=
  readImm discard v 2 s

/-- R296: NOP*, `82` IMM 2. -/
def execNopImm82 (v : Byte) (s : State) : Host.Outcome State Fault Refusal :=
  readImm discard v 2 s

/-- R296: NOP*, `89` IMM 2. -/
def execNopImm89 (v : Byte) (s : State) : Host.Outcome State Fault Refusal :=
  readImm discard v 2 s

/-- R296: NOP*, `C2` IMM 2. -/
def execNopImmC2 (v : Byte) (s : State) : Host.Outcome State Fault Refusal :=
  readImm discard v 2 s

/-- R296: NOP*, `E2` IMM 2. -/
def execNopImmE2 (v : Byte) (s : State) : Host.Outcome State Fault Refusal :=
  readImm discard v 2 s

/-- R296: NOP*, `04` ZP 3. -/
def execNopZp04 (z : Byte) (s : State) : Host.Outcome State Fault Refusal :=
  readMem discard (.zp z) 3 false s

/-- R296: NOP*, `44` ZP 3. -/
def execNopZp44 (z : Byte) (s : State) : Host.Outcome State Fault Refusal :=
  readMem discard (.zp z) 3 false s

/-- R296: NOP*, `64` ZP 3. -/
def execNopZp64 (z : Byte) (s : State) : Host.Outcome State Fault Refusal :=
  readMem discard (.zp z) 3 false s

/-- R296: NOP*, `14` ZPX 4. -/
def execNopZpx14 (z : Byte) (s : State) : Host.Outcome State Fault Refusal :=
  readMem discard (.zpx z) 4 false s

/-- R296: NOP*, `34` ZPX 4. -/
def execNopZpx34 (z : Byte) (s : State) : Host.Outcome State Fault Refusal :=
  readMem discard (.zpx z) 4 false s

/-- R296: NOP*, `54` ZPX 4. -/
def execNopZpx54 (z : Byte) (s : State) : Host.Outcome State Fault Refusal :=
  readMem discard (.zpx z) 4 false s

/-- R296: NOP*, `74` ZPX 4. -/
def execNopZpx74 (z : Byte) (s : State) : Host.Outcome State Fault Refusal :=
  readMem discard (.zpx z) 4 false s

/-- R296: NOP*, `D4` ZPX 4. -/
def execNopZpxD4 (z : Byte) (s : State) : Host.Outcome State Fault Refusal :=
  readMem discard (.zpx z) 4 false s

/-- R296: NOP*, `F4` ZPX 4. -/
def execNopZpxF4 (z : Byte) (s : State) : Host.Outcome State Fault Refusal :=
  readMem discard (.zpx z) 4 false s

/-- R296: NOP*, `0C` ABS 4. -/
def execNopAbs0C (w : Addr) (s : State) : Host.Outcome State Fault Refusal :=
  readMem discard (.abs w) 4 false s

/-- R296: NOP*, `1C` ABX 4+. -/
def execNopAbx1C (w : Addr) (s : State) : Host.Outcome State Fault Refusal :=
  readMem discard (.abx w) 4 true s

/-- R296: NOP*, `3C` ABX 4+. -/
def execNopAbx3C (w : Addr) (s : State) : Host.Outcome State Fault Refusal :=
  readMem discard (.abx w) 4 true s

/-- R296: NOP*, `5C` ABX 4+. -/
def execNopAbx5C (w : Addr) (s : State) : Host.Outcome State Fault Refusal :=
  readMem discard (.abx w) 4 true s

/-- R296: NOP*, `7C` ABX 4+. -/
def execNopAbx7C (w : Addr) (s : State) : Host.Outcome State Fault Refusal :=
  readMem discard (.abx w) 4 true s

/-- R296: NOP*, `DC` ABX 4+. -/
def execNopAbxDC (w : Addr) (s : State) : Host.Outcome State Fault Refusal :=
  readMem discard (.abx w) 4 true s

/-- R296: NOP*, `FC` ABX 4+. -/
def execNopAbxFC (w : Addr) (s : State) : Host.Outcome State Fault Refusal :=
  readMem discard (.abx w) 4 true s

/-- R297: SBC*, `EB` IMM 2. -/
def execSbcImmEB (v : Byte) (s : State) : Host.Outcome State Fault Refusal :=
  readImm subtractFromA v 2 s

/-! ### KIL -/

/-- R298: `02` KIL, KIL_CYCLES. -/
def execKil02 (s : State) : Host.Outcome State Fault Refusal :=
  .next (haltAtOpcode s)

/-- R298: `12` KIL, KIL_CYCLES. -/
def execKil12 (s : State) : Host.Outcome State Fault Refusal :=
  .next (haltAtOpcode s)

/-- R298: `22` KIL, KIL_CYCLES. -/
def execKil22 (s : State) : Host.Outcome State Fault Refusal :=
  .next (haltAtOpcode s)

/-- R298: `32` KIL, KIL_CYCLES. -/
def execKil32 (s : State) : Host.Outcome State Fault Refusal :=
  .next (haltAtOpcode s)

/-- R298: `42` KIL, KIL_CYCLES. -/
def execKil42 (s : State) : Host.Outcome State Fault Refusal :=
  .next (haltAtOpcode s)

/-- R298: `52` KIL, KIL_CYCLES. -/
def execKil52 (s : State) : Host.Outcome State Fault Refusal :=
  .next (haltAtOpcode s)

/-- R298: `62` KIL, KIL_CYCLES. -/
def execKil62 (s : State) : Host.Outcome State Fault Refusal :=
  .next (haltAtOpcode s)

/-- R298: `72` KIL, KIL_CYCLES. -/
def execKil72 (s : State) : Host.Outcome State Fault Refusal :=
  .next (haltAtOpcode s)

/-- R298: `92` KIL, KIL_CYCLES. -/
def execKil92 (s : State) : Host.Outcome State Fault Refusal :=
  .next (haltAtOpcode s)

/-- R299: `93` KIL, KIL_CYCLES. -/
def execKil93 (s : State) : Host.Outcome State Fault Refusal :=
  .next (haltAtOpcode s)

/-- R299: `9B` KIL, KIL_CYCLES. -/
def execKil9B (s : State) : Host.Outcome State Fault Refusal :=
  .next (haltAtOpcode s)

/-- R299: `9F` KIL, KIL_CYCLES. -/
def execKil9F (s : State) : Host.Outcome State Fault Refusal :=
  .next (haltAtOpcode s)

/-- R299: `AB` KIL, KIL_CYCLES. -/
def execKilAB (s : State) : Host.Outcome State Fault Refusal :=
  .next (haltAtOpcode s)

/-- R298: `B2` KIL, KIL_CYCLES. -/
def execKilB2 (s : State) : Host.Outcome State Fault Refusal :=
  .next (haltAtOpcode s)

/-- R299: `BB` KIL, KIL_CYCLES. -/
def execKilBB (s : State) : Host.Outcome State Fault Refusal :=
  .next (haltAtOpcode s)

/-- R298: `D2` KIL, KIL_CYCLES. -/
def execKilD2 (s : State) : Host.Outcome State Fault Refusal :=
  .next (haltAtOpcode s)

/-- R298: `F2` KIL, KIL_CYCLES. -/
def execKilF2 (s : State) : Host.Outcome State Fault Refusal :=
  .next (haltAtOpcode s)

end Sys2Proof.Machine
end

