-- ==== Sys2Proof/Machine/Dispatch.lean ====
section
/-! DEFINITION. The dispatch of an instruction to its meaning (R320, R326): one arm per constructor of `Instr`. -/

namespace Sys2Proof.Machine

/-- `Execute`, R326: the meaning of an instruction whose bytes have been fetched, so that `PC` addresses the next
instruction and `opcode` holds its opcode. -/
def exec (i : Instr) (s : State) : Host.Outcome State Fault Refusal :=
  match i with
  | .ldaImm v => Sys2Proof.Machine.execLdaImm v s
  | .ldaZp z => Sys2Proof.Machine.execLdaZp z s
  | .ldaZpx z => Sys2Proof.Machine.execLdaZpx z s
  | .ldaAbs w => Sys2Proof.Machine.execLdaAbs w s
  | .ldaIzx z => Sys2Proof.Machine.execLdaIzx z s
  | .ldaIzy z => Sys2Proof.Machine.execLdaIzy z s
  | .ldaAbx w => Sys2Proof.Machine.execLdaAbx w s
  | .ldaAby w => Sys2Proof.Machine.execLdaAby w s
  | .ldxImm v => Sys2Proof.Machine.execLdxImm v s
  | .ldxZp z => Sys2Proof.Machine.execLdxZp z s
  | .ldxZpy z => Sys2Proof.Machine.execLdxZpy z s
  | .ldxAbs w => Sys2Proof.Machine.execLdxAbs w s
  | .ldxAby w => Sys2Proof.Machine.execLdxAby w s
  | .ldyImm v => Sys2Proof.Machine.execLdyImm v s
  | .ldyZp z => Sys2Proof.Machine.execLdyZp z s
  | .ldyZpx z => Sys2Proof.Machine.execLdyZpx z s
  | .ldyAbs w => Sys2Proof.Machine.execLdyAbs w s
  | .ldyAbx w => Sys2Proof.Machine.execLdyAbx w s
  | .staZp z => Sys2Proof.Machine.execStaZp z s
  | .staZpx z => Sys2Proof.Machine.execStaZpx z s
  | .staAbs w => Sys2Proof.Machine.execStaAbs w s
  | .staIzx z => Sys2Proof.Machine.execStaIzx z s
  | .staIzy z => Sys2Proof.Machine.execStaIzy z s
  | .staAbx w => Sys2Proof.Machine.execStaAbx w s
  | .staAby w => Sys2Proof.Machine.execStaAby w s
  | .stxZp z => Sys2Proof.Machine.execStxZp z s
  | .stxZpy z => Sys2Proof.Machine.execStxZpy z s
  | .stxAbs w => Sys2Proof.Machine.execStxAbs w s
  | .styZp z => Sys2Proof.Machine.execStyZp z s
  | .styZpx z => Sys2Proof.Machine.execStyZpx z s
  | .styAbs w => Sys2Proof.Machine.execStyAbs w s
  | .tax => Sys2Proof.Machine.execTax s
  | .tay => Sys2Proof.Machine.execTay s
  | .txa => Sys2Proof.Machine.execTxa s
  | .tya => Sys2Proof.Machine.execTya s
  | .tsx => Sys2Proof.Machine.execTsx s
  | .txs => Sys2Proof.Machine.execTxs s
  | .pha => Sys2Proof.Machine.execPha s
  | .php => Sys2Proof.Machine.execPhp s
  | .pla => Sys2Proof.Machine.execPla s
  | .plp => Sys2Proof.Machine.execPlp s
  | .adcImm v => Sys2Proof.Machine.execAdcImm v s
  | .adcZp z => Sys2Proof.Machine.execAdcZp z s
  | .adcZpx z => Sys2Proof.Machine.execAdcZpx z s
  | .adcAbs w => Sys2Proof.Machine.execAdcAbs w s
  | .adcIzx z => Sys2Proof.Machine.execAdcIzx z s
  | .adcIzy z => Sys2Proof.Machine.execAdcIzy z s
  | .adcAbx w => Sys2Proof.Machine.execAdcAbx w s
  | .adcAby w => Sys2Proof.Machine.execAdcAby w s
  | .sbcImm v => Sys2Proof.Machine.execSbcImm v s
  | .sbcZp z => Sys2Proof.Machine.execSbcZp z s
  | .sbcZpx z => Sys2Proof.Machine.execSbcZpx z s
  | .sbcAbs w => Sys2Proof.Machine.execSbcAbs w s
  | .sbcIzx z => Sys2Proof.Machine.execSbcIzx z s
  | .sbcIzy z => Sys2Proof.Machine.execSbcIzy z s
  | .sbcAbx w => Sys2Proof.Machine.execSbcAbx w s
  | .sbcAby w => Sys2Proof.Machine.execSbcAby w s
  | .cmpImm v => Sys2Proof.Machine.execCmpImm v s
  | .cmpZp z => Sys2Proof.Machine.execCmpZp z s
  | .cmpZpx z => Sys2Proof.Machine.execCmpZpx z s
  | .cmpAbs w => Sys2Proof.Machine.execCmpAbs w s
  | .cmpIzx z => Sys2Proof.Machine.execCmpIzx z s
  | .cmpIzy z => Sys2Proof.Machine.execCmpIzy z s
  | .cmpAbx w => Sys2Proof.Machine.execCmpAbx w s
  | .cmpAby w => Sys2Proof.Machine.execCmpAby w s
  | .cpxImm v => Sys2Proof.Machine.execCpxImm v s
  | .cpxZp z => Sys2Proof.Machine.execCpxZp z s
  | .cpxAbs w => Sys2Proof.Machine.execCpxAbs w s
  | .cpyImm v => Sys2Proof.Machine.execCpyImm v s
  | .cpyZp z => Sys2Proof.Machine.execCpyZp z s
  | .cpyAbs w => Sys2Proof.Machine.execCpyAbs w s
  | .andImm v => Sys2Proof.Machine.execAndImm v s
  | .andZp z => Sys2Proof.Machine.execAndZp z s
  | .andZpx z => Sys2Proof.Machine.execAndZpx z s
  | .andAbs w => Sys2Proof.Machine.execAndAbs w s
  | .andIzx z => Sys2Proof.Machine.execAndIzx z s
  | .andIzy z => Sys2Proof.Machine.execAndIzy z s
  | .andAbx w => Sys2Proof.Machine.execAndAbx w s
  | .andAby w => Sys2Proof.Machine.execAndAby w s
  | .oraImm v => Sys2Proof.Machine.execOraImm v s
  | .oraZp z => Sys2Proof.Machine.execOraZp z s
  | .oraZpx z => Sys2Proof.Machine.execOraZpx z s
  | .oraAbs w => Sys2Proof.Machine.execOraAbs w s
  | .oraIzx z => Sys2Proof.Machine.execOraIzx z s
  | .oraIzy z => Sys2Proof.Machine.execOraIzy z s
  | .oraAbx w => Sys2Proof.Machine.execOraAbx w s
  | .oraAby w => Sys2Proof.Machine.execOraAby w s
  | .eorImm v => Sys2Proof.Machine.execEorImm v s
  | .eorZp z => Sys2Proof.Machine.execEorZp z s
  | .eorZpx z => Sys2Proof.Machine.execEorZpx z s
  | .eorAbs w => Sys2Proof.Machine.execEorAbs w s
  | .eorIzx z => Sys2Proof.Machine.execEorIzx z s
  | .eorIzy z => Sys2Proof.Machine.execEorIzy z s
  | .eorAbx w => Sys2Proof.Machine.execEorAbx w s
  | .eorAby w => Sys2Proof.Machine.execEorAby w s
  | .bitZp z => Sys2Proof.Machine.execBitZp z s
  | .bitAbs w => Sys2Proof.Machine.execBitAbs w s
  | .incZp z => Sys2Proof.Machine.execIncZp z s
  | .incZpx z => Sys2Proof.Machine.execIncZpx z s
  | .incAbs w => Sys2Proof.Machine.execIncAbs w s
  | .incAbx w => Sys2Proof.Machine.execIncAbx w s
  | .decZp z => Sys2Proof.Machine.execDecZp z s
  | .decZpx z => Sys2Proof.Machine.execDecZpx z s
  | .decAbs w => Sys2Proof.Machine.execDecAbs w s
  | .decAbx w => Sys2Proof.Machine.execDecAbx w s
  | .inx => Sys2Proof.Machine.execInx s
  | .iny => Sys2Proof.Machine.execIny s
  | .dex => Sys2Proof.Machine.execDex s
  | .dey => Sys2Proof.Machine.execDey s
  | .aslAcc => Sys2Proof.Machine.execAslAcc s
  | .aslZp z => Sys2Proof.Machine.execAslZp z s
  | .aslZpx z => Sys2Proof.Machine.execAslZpx z s
  | .aslAbs w => Sys2Proof.Machine.execAslAbs w s
  | .aslAbx w => Sys2Proof.Machine.execAslAbx w s
  | .lsrAcc => Sys2Proof.Machine.execLsrAcc s
  | .lsrZp z => Sys2Proof.Machine.execLsrZp z s
  | .lsrZpx z => Sys2Proof.Machine.execLsrZpx z s
  | .lsrAbs w => Sys2Proof.Machine.execLsrAbs w s
  | .lsrAbx w => Sys2Proof.Machine.execLsrAbx w s
  | .rolAcc => Sys2Proof.Machine.execRolAcc s
  | .rolZp z => Sys2Proof.Machine.execRolZp z s
  | .rolZpx z => Sys2Proof.Machine.execRolZpx z s
  | .rolAbs w => Sys2Proof.Machine.execRolAbs w s
  | .rolAbx w => Sys2Proof.Machine.execRolAbx w s
  | .rorAcc => Sys2Proof.Machine.execRorAcc s
  | .rorZp z => Sys2Proof.Machine.execRorZp z s
  | .rorZpx z => Sys2Proof.Machine.execRorZpx z s
  | .rorAbs w => Sys2Proof.Machine.execRorAbs w s
  | .rorAbx w => Sys2Proof.Machine.execRorAbx w s
  | .jmpAbs w => Sys2Proof.Machine.execJmpAbs w s
  | .jmpInd p => Sys2Proof.Machine.execJmpInd p s
  | .jsr w => Sys2Proof.Machine.execJsr w s
  | .rts => Sys2Proof.Machine.execRts s
  | .bpl r => Sys2Proof.Machine.execBpl r s
  | .bmi r => Sys2Proof.Machine.execBmi r s
  | .bvc r => Sys2Proof.Machine.execBvc r s
  | .bvs r => Sys2Proof.Machine.execBvs r s
  | .bcc r => Sys2Proof.Machine.execBcc r s
  | .bcs r => Sys2Proof.Machine.execBcs r s
  | .bne r => Sys2Proof.Machine.execBne r s
  | .beq r => Sys2Proof.Machine.execBeq r s
  | .clc => Sys2Proof.Machine.execClc s
  | .sec => Sys2Proof.Machine.execSec s
  | .cli => Sys2Proof.Machine.execCli s
  | .sei => Sys2Proof.Machine.execSei s
  | .cld => Sys2Proof.Machine.execCld s
  | .sed => Sys2Proof.Machine.execSed s
  | .clv => Sys2Proof.Machine.execClv s
  | .nop => Sys2Proof.Machine.execNop s
  | .laxZp z => Sys2Proof.Machine.execLaxZp z s
  | .laxZpy z => Sys2Proof.Machine.execLaxZpy z s
  | .laxAbs w => Sys2Proof.Machine.execLaxAbs w s
  | .laxIzx z => Sys2Proof.Machine.execLaxIzx z s
  | .laxIzy z => Sys2Proof.Machine.execLaxIzy z s
  | .laxAby w => Sys2Proof.Machine.execLaxAby w s
  | .saxZp z => Sys2Proof.Machine.execSaxZp z s
  | .saxZpy z => Sys2Proof.Machine.execSaxZpy z s
  | .saxAbs w => Sys2Proof.Machine.execSaxAbs w s
  | .saxIzx z => Sys2Proof.Machine.execSaxIzx z s
  | .sloZp z => Sys2Proof.Machine.execSloZp z s
  | .sloZpx z => Sys2Proof.Machine.execSloZpx z s
  | .sloAbs w => Sys2Proof.Machine.execSloAbs w s
  | .sloIzx z => Sys2Proof.Machine.execSloIzx z s
  | .sloIzy z => Sys2Proof.Machine.execSloIzy z s
  | .sloAbx w => Sys2Proof.Machine.execSloAbx w s
  | .sloAby w => Sys2Proof.Machine.execSloAby w s
  | .rlaZp z => Sys2Proof.Machine.execRlaZp z s
  | .rlaZpx z => Sys2Proof.Machine.execRlaZpx z s
  | .rlaAbs w => Sys2Proof.Machine.execRlaAbs w s
  | .rlaIzx z => Sys2Proof.Machine.execRlaIzx z s
  | .rlaIzy z => Sys2Proof.Machine.execRlaIzy z s
  | .rlaAbx w => Sys2Proof.Machine.execRlaAbx w s
  | .rlaAby w => Sys2Proof.Machine.execRlaAby w s
  | .sreZp z => Sys2Proof.Machine.execSreZp z s
  | .sreZpx z => Sys2Proof.Machine.execSreZpx z s
  | .sreAbs w => Sys2Proof.Machine.execSreAbs w s
  | .sreIzx z => Sys2Proof.Machine.execSreIzx z s
  | .sreIzy z => Sys2Proof.Machine.execSreIzy z s
  | .sreAbx w => Sys2Proof.Machine.execSreAbx w s
  | .sreAby w => Sys2Proof.Machine.execSreAby w s
  | .rraZp z => Sys2Proof.Machine.execRraZp z s
  | .rraZpx z => Sys2Proof.Machine.execRraZpx z s
  | .rraAbs w => Sys2Proof.Machine.execRraAbs w s
  | .rraIzx z => Sys2Proof.Machine.execRraIzx z s
  | .rraIzy z => Sys2Proof.Machine.execRraIzy z s
  | .rraAbx w => Sys2Proof.Machine.execRraAbx w s
  | .rraAby w => Sys2Proof.Machine.execRraAby w s
  | .dcpZp z => Sys2Proof.Machine.execDcpZp z s
  | .dcpZpx z => Sys2Proof.Machine.execDcpZpx z s
  | .dcpAbs w => Sys2Proof.Machine.execDcpAbs w s
  | .dcpIzx z => Sys2Proof.Machine.execDcpIzx z s
  | .dcpIzy z => Sys2Proof.Machine.execDcpIzy z s
  | .dcpAbx w => Sys2Proof.Machine.execDcpAbx w s
  | .dcpAby w => Sys2Proof.Machine.execDcpAby w s
  | .iscZp z => Sys2Proof.Machine.execIscZp z s
  | .iscZpx z => Sys2Proof.Machine.execIscZpx z s
  | .iscAbs w => Sys2Proof.Machine.execIscAbs w s
  | .iscIzx z => Sys2Proof.Machine.execIscIzx z s
  | .iscIzy z => Sys2Proof.Machine.execIscIzy z s
  | .iscAbx w => Sys2Proof.Machine.execIscAbx w s
  | .iscAby w => Sys2Proof.Machine.execIscAby w s
  | .ancImm0B v => Sys2Proof.Machine.execAncImm0B v s
  | .ancImm2B v => Sys2Proof.Machine.execAncImm2B v s
  | .alrImm v => Sys2Proof.Machine.execAlrImm v s
  | .arrImm v => Sys2Proof.Machine.execArrImm v s
  | .xaaImm v => Sys2Proof.Machine.execXaaImm v s
  | .axsImm v => Sys2Proof.Machine.execAxsImm v s
  | .shxAby w => Sys2Proof.Machine.execShxAby w s
  | .shyAbx w => Sys2Proof.Machine.execShyAbx w s
  | .nopImp1A => Sys2Proof.Machine.execNopImp1A s
  | .nopImp3A => Sys2Proof.Machine.execNopImp3A s
  | .nopImp5A => Sys2Proof.Machine.execNopImp5A s
  | .nopImp7A => Sys2Proof.Machine.execNopImp7A s
  | .nopImpDA => Sys2Proof.Machine.execNopImpDA s
  | .nopImpFA => Sys2Proof.Machine.execNopImpFA s
  | .nopImm80 v => Sys2Proof.Machine.execNopImm80 v s
  | .nopImm82 v => Sys2Proof.Machine.execNopImm82 v s
  | .nopImm89 v => Sys2Proof.Machine.execNopImm89 v s
  | .nopImmC2 v => Sys2Proof.Machine.execNopImmC2 v s
  | .nopImmE2 v => Sys2Proof.Machine.execNopImmE2 v s
  | .nopZp04 z => Sys2Proof.Machine.execNopZp04 z s
  | .nopZp44 z => Sys2Proof.Machine.execNopZp44 z s
  | .nopZp64 z => Sys2Proof.Machine.execNopZp64 z s
  | .nopZpx14 z => Sys2Proof.Machine.execNopZpx14 z s
  | .nopZpx34 z => Sys2Proof.Machine.execNopZpx34 z s
  | .nopZpx54 z => Sys2Proof.Machine.execNopZpx54 z s
  | .nopZpx74 z => Sys2Proof.Machine.execNopZpx74 z s
  | .nopZpxD4 z => Sys2Proof.Machine.execNopZpxD4 z s
  | .nopZpxF4 z => Sys2Proof.Machine.execNopZpxF4 z s
  | .nopAbs0C w => Sys2Proof.Machine.execNopAbs0C w s
  | .nopAbx1C w => Sys2Proof.Machine.execNopAbx1C w s
  | .nopAbx3C w => Sys2Proof.Machine.execNopAbx3C w s
  | .nopAbx5C w => Sys2Proof.Machine.execNopAbx5C w s
  | .nopAbx7C w => Sys2Proof.Machine.execNopAbx7C w s
  | .nopAbxDC w => Sys2Proof.Machine.execNopAbxDC w s
  | .nopAbxFC w => Sys2Proof.Machine.execNopAbxFC w s
  | .sbcImmEB v => Sys2Proof.Machine.execSbcImmEB v s
  | .kil02 => Sys2Proof.Machine.execKil02 s
  | .kil12 => Sys2Proof.Machine.execKil12 s
  | .kil22 => Sys2Proof.Machine.execKil22 s
  | .kil32 => Sys2Proof.Machine.execKil32 s
  | .kil42 => Sys2Proof.Machine.execKil42 s
  | .kil52 => Sys2Proof.Machine.execKil52 s
  | .kil62 => Sys2Proof.Machine.execKil62 s
  | .kil72 => Sys2Proof.Machine.execKil72 s
  | .kil92 => Sys2Proof.Machine.execKil92 s
  | .kil93 => Sys2Proof.Machine.execKil93 s
  | .kil9B => Sys2Proof.Machine.execKil9B s
  | .kil9F => Sys2Proof.Machine.execKil9F s
  | .kilAB => Sys2Proof.Machine.execKilAB s
  | .kilB2 => Sys2Proof.Machine.execKilB2 s
  | .kilBB => Sys2Proof.Machine.execKilBB s
  | .kilD2 => Sys2Proof.Machine.execKilD2 s
  | .kilF2 => Sys2Proof.Machine.execKilF2 s
  | .brk => Sys2Proof.Machine.execBrk s
  | .rti => Sys2Proof.Machine.execRti s

end Sys2Proof.Machine
end

