-- ==== Sys2Proof/Machine/Step.lean ====
section
/-! DEFINITION. One step of the core (R320), and the placing of an instruction where the next step fetches it. -/

namespace Sys2Proof.Machine

/-- `Step()`, R320: with an NMI pending, service it and do nothing else (R321); otherwise fetch one instruction
(R322, R323, R325) and execute it (R326).  The record of the bus starts anew with every step. -/
def step (s : State) : Host.Outcome State Fault Refusal :=
  let s := { s with bus := [] }
  if s.nmiEdge then .next (serviceNmi s)
  else
    let f := fetchInstr s
    exec f.1 f.2

/-- The bytes of a table word, stored where the next step fetches.  What that fetch needs besides is set too: no
NMI is pending, the default provider answers, and where the three bytes at `PC` are not all backed, the whole address
space is (log entry 8). -/
def State.withFetchWord (s : State) (nbits w : Nat) : State :=
  let bytes := tableBytes nbits w
  let cfg :=
    if backedRange s.cfg s.PC bytes.length then s.cfg else { s.cfg with memBase := 0, memSize := 65536 }
  State.pokeBytes { s with nmiEdge := false, cfg := { cfg with provider := .default } } s.PC bytes

end Sys2Proof.Machine
end

