-- ==== Sys2Proof/Machine/HostInterface.lean ====
section
/-! DEFINITION. What the host can do to the core beside `Step` (R5, R8, R49): `Reset`, `TriggerNMI`, `RunCycles`, writes
to registers, flags and memory, and the toggle `INDIRECT_BUG`. -/

namespace Sys2Proof.Machine

/-- `Reset()`, R350, R48: two reads and no write (R76).  `opcode`, memory and the parameters stay, and so does
`status`, which is no part of what `Reset` returns (log entry 4). -/
def resetCommand (s : State) : State :=
  let v := read16 resetVector { s with bus := [] }
  let s := v.2
  { s with
    A := 0x00#8
    X := 0x00#8
    Y := 0x00#8
    C := false
    Z := false
    D := false
    B := false
    V := false
    N := false
    I := true
    S := s.cfg.resetS
    PC := v.1
    cycles := 7
    totalCycles := s.totalCycles + 7
    nmiEdge := s.nmiEdge && !s.cfg.resetClearsNmi }

/-- `TriggerNMI()`, R356: it sets the latch and does nothing else. -/
def triggerNmi (s : State) : State := { s with nmiEdge := true }

/-- A step during which the host calls `TriggerNMI`: the step itself is unaffected and the latch is set when it
ends, so the next step services the request (R358, R359, D31). -/
def stepTriggered (s : State) : Host.Outcome State Fault Refusal :=
  match step s with
  | .next t    => .next (triggerNmi t)
  | .fault r   => .fault r
  | .refused r => .refused r

/-- The loop of `RunCycles`, R336, with at most `fuel` steps: it answers the elapsed count and the state. -/
def runCyclesFrom : Nat → Nat → Nat → State → Host.Outcome (Nat × State) Fault Refusal
  | 0, _, elapsed, s => .next (elapsed, s)
  | fuel + 1, target, elapsed, s =>
    if elapsed < target then
      match step s with
      | .next t    => runCyclesFrom fuel target (elapsed + t.cycles) t
      | .fault r   => .fault r
      | .refused r => .refused r
    else .next (elapsed, s)

/-- `RunCycles(target)`, R336.  Every step costs at least one cycle when `KIL_CYCLES` is at least 1, so `target`
steps are enough (log entry 9). -/
def runCycles (target : Int) (s : State) : Host.Outcome (Nat × State) Fault Refusal :=
  runCyclesFrom target.toNat target.toNat 0 s

/-- The seven flags, by name (R31). -/
inductive FlagName where
  | C | Z | I | D | B | V | N
deriving DecidableEq, Repr

/-- A host write of one flag (R49). -/
def writeFlag (f : FlagName) (b : Bool) (s : State) : State :=
  match f with
  | .C => { s with C := b }
  | .Z => { s with Z := b }
  | .I => { s with I := b }
  | .D => { s with D := b }
  | .B => { s with B := b }
  | .V => { s with V := b }
  | .N => { s with N := b }

/-- The commands of the host that change the core's state between steps, `Step` and `RunCycles` apart (R8, R49).
A written value is a natural number, masked to the item's width (R23).  There is no command that writes `opcode`,
`cycles` or `totalCycles` (D28), and none that clears the NMI latch (R356).  `setProviderState` is what the peripherals
of an injected provider do on their own between steps (R5, R62; log entry 18). -/
inductive HostCommand where
  | reset
  | triggerNmi
  | writeA (v : Nat)
  | writeX (v : Nat)
  | writeY (v : Nat)
  | writeS (v : Nat)
  | writePC (v : Nat)
  | writeFlag (f : FlagName) (b : Bool)
  | unpackStatus (v : Nat)
  | writeMemory (a v : Nat)
  | setProviderState (p : Nat)
  | setIndirectBug (b : Bool)
deriving DecidableEq, Repr

/-- The effect of a host command. -/
def hostCommand (c : HostCommand) (s : State) : State :=
  match c with
  | .reset            => resetCommand s
  | .triggerNmi       => triggerNmi s
  | .writeA v         => { s with A := BitVec.ofNat 8 v }
  | .writeX v         => { s with X := BitVec.ofNat 8 v }
  | .writeY v         => { s with Y := BitVec.ofNat 8 v }
  | .writeS v         => { s with S := BitVec.ofNat 8 v }
  | .writePC v        => { s with PC := BitVec.ofNat 16 v }
  | .writeFlag f b    => Sys2Proof.Machine.writeFlag f b s
  | .unpackStatus v   => Sys2Proof.Machine.unpackStatus (BitVec.ofNat 8 v) s
  | .writeMemory a v  => s.poke (BitVec.ofNat 16 a) (BitVec.ofNat 8 v)
  | .setProviderState p => { s with providerState := p }
  | .setIndirectBug b => { s with cfg := { s.cfg with indirectBug := b } }

end Sys2Proof.Machine
end

