-- ==== Sys2Proof/Safety.lean ====
section
/-! DEFINITION. What counts as a well-formed state and a safe run, in the terms the statements use. -/

namespace Sys2Proof

namespace Machine

/-- Every listed byte of memory lies in the backed region (R63). -/
def State.memoryBacked (s : State) : Bool :=
  s.mem.all fun c => decide (s.cfg.memBase ≤ c.1) && decide (c.1 < s.cfg.memBase + s.cfg.memSize)

/-- A well-formed state: memory in its canonical form and inside the backed region, and the parameters in their
ranges (R7). -/
def State.wellFormed (s : State) : Bool :=
  s.mem.wf && s.memoryBacked && s.cfg.wellFormed

/-- The core is halted: its last step met a halt opcode (R366). -/
def State.halted (s : State) : Bool := s.status == .halted

end Machine

/-- `k` steps from `s` all answer a next state: no fault and no refusal. -/
def SafeRun (k : Nat) (s : Machine.State) : Prop :=
  ∃ t, core.run k s = .next t

end Sys2Proof
end

