-- ==== Sys2Proof/Certificates/Slice0/Obligations.lean ====
section
/-! DEFINITION. The statements for the provers.  The vocabulary stands first, in `Sys2Proof.Claims`: it says in plain
arithmetic what an operand is, what an instruction costs, which bytes it accesses, and what its result is.  A
statement that an instruction answers a given next state says all three of result, frame and completion: every
field of `State` that the next state does not name is unchanged.  Where bytes are stored, the statement names the
address with the model's own `effectiveAddress` or `stackAddr`, and gives the value that EVERY address reads as
after the instruction.  `status` and the bus record, which `ended` names, are the model's records of what R337 and R75
say of a step (log entries 4 and 5).  A statement without a premise about the memory provider holds of the default
provider and of every injected one (R62, log entry 18): where an instruction makes several accesses, what a later
read gives is said after the earlier ones. -/

namespace Sys2Proof.Claims

open Sys2Proof.Machine

/-! ## Values -/

/-- A 16-bit value from its high and its low byte: `hi*256 + lo` (R9). -/
def word (hi lo : Byte) : Addr := BitVec.ofNat 16 (hi.toNat * 256 + lo.toNat)

/-- A byte read as a two's-complement number (R183). -/
def signed (v : Byte) : Int := if v.toNat < 128 then v.toNat else (v.toNat : Int) - 256

/-- `Z` and `N` from a byte: `Z` says that it is 0, `N` that its bit 7 is 1 (R40). -/
def withZN (v : Byte) (s : State) : State :=
  { s with Z := decide (v.toNat = 0), N := decide (128 ≤ v.toNat) }

/-- The status byte as a sum of weights (R37), with bit 4 from `b`. -/
def statusByte (b : Bool) (s : State) : Byte :=
  BitVec.ofNat 8 (s.N.toNat * 128 + s.V.toNat * 64 + 32 + b.toNat * 16 + s.D.toNat * 8 + s.I.toNat * 4 +
    s.Z.toNat * 2 + s.C.toNat)

/-- The seven flags from a byte, bit by bit; bit 5 is not used (R38). -/
def withStatus (b : Byte) (s : State) : State :=
  { s with
    N := decide (b.toNat / 128 % 2 = 1)
    V := decide (b.toNat / 64 % 2 = 1)
    B := decide (b.toNat / 16 % 2 = 1)
    D := decide (b.toNat / 8 % 2 = 1)
    I := decide (b.toNat / 4 % 2 = 1)
    Z := decide (b.toNat / 2 % 2 = 1)
    C := decide (b.toNat % 2 = 1) }

/-! ## Forms -/

/-- One form of an operation: opcode, addressing mode, base cost, page-cross eligibility (R96). -/
structure Form where
  opcode   : Byte
  mode     : Option Mode
  base     : BaseCost
  eligible : Bool
deriving DecidableEq, Repr

/-- A form that is not page-cross eligible. -/
def form (opcode : Byte) (mode : Mode) (base : Nat) : Form := ⟨opcode, some mode, .fixed base, false⟩

/-- A page-cross eligible form, which the spec marks `+`. -/
def formPlus (opcode : Byte) (mode : Mode) (base : Nat) : Form := ⟨opcode, some mode, .fixed base, true⟩

/-- The form of an instruction, by its own opcode, its own operand and the dispatch table. -/
def formOf (i : Instr) : Form :=
  ⟨i.opcode, i.operand.mode, (dispatchEntry i.opcode).base, (dispatchEntry i.opcode).eligible⟩

/-- The forms of an operation are exactly those of the list: each instruction has one of them, and each of them
has an instruction. -/
def HasForms (op : Operation) (l : List Form) : Prop :=
  (∀ i : Instr, i.operation = op → formOf i ∈ l) ∧ ∀ f ∈ l, ∃ i : Instr, i.operation = op ∧ formOf i = f

/-! ## The bus -/

/-- What a read of `a` gives after the accesses `earlier`.  With the default provider earlier reads do not matter
(R64); with an injected one they may (R65). -/
def readAfter (s : State) (earlier : List BusAccess) (a : Addr) : Byte := (s.after earlier).peek a

/-- `s` after the accesses `acc`: the provider has answered them, and they are recorded (R62, R75). -/
def accessed (acc : List BusAccess) (s : State) : State := { s.after acc with bus := s.bus ++ acc }

/-! ## Operands and costs -/

/-- The effective address of a memory operand, by the model's resolver (R120). -/
def effectiveAddress (m : MemOperand) (s : State) : Addr := (resolve m s).1.addr

/-- The resolver reports a page cross for the operand (R134, R135). -/
def operandCrosses : Operand → State → Bool
  | .mem m, s => (resolve m s).1.crossed
  | _, _ => false

/-- The pointer reads of a memory operand (R75, item 5). -/
def pointerReads : MemOperand → State → List BusAccess
  | .izx z, s =>
    [.read (BitVec.ofNat 16 ((z.toNat + s.X.toNat) % 256)),
     .read (BitVec.ofNat 16 ((z.toNat + s.X.toNat + 1) % 256))]
  | .izy z, _ => [.read (BitVec.ofNat 16 z.toNat), .read (BitVec.ofNat 16 ((z.toNat + 1) % 256))]
  | _, _ => []

/-- The value that the operation reads (R136): the operand byte, `A`, or the byte at the effective address. -/
def operandValue : Operand → State → Option Byte
  | .imm v, _ => some v
  | .acc, s   => some s.A
  | .mem m, s => some (readAfter s (pointerReads m s) (effectiveAddress m s))
  | _, _      => none

/-- The accesses of a read operation after its operand bytes are fetched (R75, items 5 and 6). -/
def operandReads : Operand → State → List BusAccess
  | .mem m, s => pointerReads m s ++ [.read (effectiveAddress m s)]
  | _, _ => []

/-- The base cost of an instruction, from the dispatch table (R98). -/
def baseCost (i : Instr) (s : State) : Nat :=
  match (dispatchEntry i.opcode).base with
  | .fixed n    => n
  | .killCycles => s.cfg.killCycles

/-- The cost of an instruction that is no branch (R331): the base cost, and 1 more for an eligible opcode whose
operand crosses a page. -/
def cost (i : Instr) (s : State) : Nat :=
  baseCost i s + if (dispatchEntry i.opcode).eligible = true ∧ operandCrosses i.operand s = true then 1 else 0

/-- `s` at the end of an instruction that costs `n` and makes the accesses `acc` after its fetch (R327, R75). -/
def ended (n : Nat) (acc : List BusAccess) (s : State) : State :=
  { accessed acc s with cycles := n, totalCycles := s.totalCycles + n, status := .normal }

/-! ## Writes -/

/-- What the address `a` reads as after the writes `ws`, in order: a write stores in the backed region only (R63). -/
def byteAfter (s : State) (ws : List (Addr × Byte)) (a : Addr) : Byte :=
  ws.foldl (fun old w => if w.1 = a ∧ backed s.cfg a = true then w.2 else old) (s.peek a)

/-- With the default provider every address of `t` reads as it does after the writes `ws` to `s`: the bytes stored,
and no others (R63, R64).  What an injected provider makes of a write is its own affair (R62). -/
def Stores (s t : State) (ws : List (Addr × Byte)) : Prop :=
  s.cfg.provider = .default → ∀ a, t.peek a = byteAfter s ws a

/-- The bus writes of a list of pairs. -/
def busWrites (ws : List (Addr × Byte)) : List BusAccess := ws.map fun w => .write w.1 w.2

/-- The writes among bus accesses, in order. -/
def writesOf (l : List BusAccess) : List (Addr × Byte) :=
  l.filterMap fun
    | .read _    => none
    | .write a v => some (a, v)

/-! ## The shapes of the instructions -/

/-- A read operation: it reads its operand's value `v`, once, and ends with `f v` on the state, at its cost. -/
def Reads (i : Instr) (s : State) (f : Byte → State → State) : Prop :=
  ∃ v, operandValue i.operand s = some v ∧
    exec i s = .next (f v (ended (cost i s) (operandReads i.operand s) s))

/-- A store operation: it writes `v` at its effective address, reads no target, and changes nothing else. -/
def Writes (i : Instr) (s : State) (v : Byte) : Prop :=
  ∃ m t, i.operand = .mem m ∧ exec i s = .next t ∧
    t = ended (cost i s) (pointerReads m s ++ [.write (effectiveAddress m s) v]) s ∧
    Stores s t [(effectiveAddress m s, v)]

/-- A read-modify-write operation: the operand's value `m` is read once, `r m` is written back once, to `A` in
accumulator mode, else to the effective address; then `f m` gives the flags and registers. -/
def Modifies (i : Instr) (s : State) (r : Byte → Byte) (f : Byte → State → State) : Prop :=
  match i.operand with
  | .acc => exec i s = .next (f s.A { ended (cost i s) [] s with A := r s.A })
  | .mem m =>
    ∃ v t, operandValue (.mem m) s = some v ∧ exec i s = .next t ∧
      t = f v (ended (cost i s)
        (operandReads (.mem m) s ++ [.write (effectiveAddress m s) (r v)]) s) ∧
      Stores s t [(effectiveAddress m s, r v)]
  | _ => False

/-- An instruction that costs `n`, makes the accesses `acc` after its fetch and ends with `f` on the state. -/
def Accesses (i : Instr) (s : State) (n : Nat) (acc : List BusAccess) (f : State → State) : Prop :=
  exec i s = .next (f (ended n acc s))

/-- An instruction that costs `n`, makes no access after its fetch and ends with `f` on the state. -/
def Plain (i : Instr) (s : State) (n : Nat) (f : State → State) : Prop := Accesses i s n [] f

/-! ## Results -/

/-- The result byte, `mod 256`, of a sum of natural numbers. -/
def low (n : Nat) : Byte := BitVec.ofNat 8 n

/-- The sum of ADC: `A + m + C` (R182). -/
def sumOf (m : Byte) (s : State) : Nat := s.A.toNat + m.toNat + s.C.toNat

/-- The difference of SBC: `A - m - (1 - C)` (R185). -/
def differenceOf (m : Byte) (s : State) : Int := (s.A.toNat : Int) - m.toNat - (1 - (s.C.toNat : Int))

/-- A signed result does not fit `-128..127` (R183). -/
def overflows (r : Int) : Bool := decide (r < -128 ∨ 127 < r)

/-- `AddDecimal(a, v, c)` on natural numbers: the result and the decimal carry (R184). -/
def decimalSum (a v : Byte) (c : Bool) : Nat × Bool :=
  let lo := a.toNat % 16 + v.toNat % 16 + c.toNat
  let carry := if 9 < lo then 1 else 0
  let hi := a.toNat / 16 + v.toNat / 16 + carry
  ((hi + 6 * (if 9 < hi then 1 else 0)) % 16 * 16 + (lo + 6 * carry) % 16, decide (9 < hi))

/-- `SubDecimal(a, v, c)` on integers (R186). -/
def decimalDifference (a v : Byte) (c : Bool) : Nat :=
  let lo : Int := (a.toNat % 16 : Nat) - (v.toNat % 16 : Nat) - (1 - (c.toNat : Int))
  let borrow : Int := if lo < 0 then 1 else 0
  let hi : Int := (a.toNat / 16 : Nat) - (v.toNat / 16 : Nat) - borrow
  ((hi - (if hi < 0 then 6 else 0)) % 16).toNat * 16 + ((lo - 6 * borrow) % 16).toNat

/-- After ADC with operand `m` (R181, R191). -/
def afterAdd (m : Byte) (s : State) : State :=
  { s with
    A := if s.D then low (decimalSum s.A m s.C).1 else low (sumOf m s)
    C := if s.D then (decimalSum s.A m s.C).2 else decide (255 < sumOf m s)
    V := overflows (signed s.A + signed m + s.C.toNat)
    Z := decide (sumOf m s % 256 = 0)
    N := decide (128 ≤ sumOf m s % 256) }

/-- After SBC with operand `m` (R185, R191). -/
def afterSubtract (m : Byte) (s : State) : State :=
  { s with
    A := if s.D then low (decimalDifference s.A m s.C) else BitVec.ofInt 8 (differenceOf m s)
    C := decide (0 ≤ differenceOf m s)
    V := overflows (signed s.A - signed m - (1 - (s.C.toNat : Int)))
    Z := decide (differenceOf m s % 256 = 0)
    N := decide (128 ≤ differenceOf m s % 256) }

/-- After `Compare(reg, m)` (R187): `C = (reg >= m)`, `Z = (reg == m)`, `N` is bit 7 of the difference. -/
def afterCompare (reg m : Byte) (s : State) : State :=
  { s with
    C := decide (m.toNat ≤ reg.toNat)
    Z := decide (reg.toNat = m.toNat)
    N := decide (128 ≤ (reg.toNat + 256 - m.toNat) % 256) }

/-- The results of the four shifts on `m` (R231 to R234). -/
def asl (m : Byte) : Byte := low (2 * m.toNat)
def lsr (m : Byte) : Byte := low (m.toNat / 2)
def rol (c : Bool) (m : Byte) : Byte := low (2 * m.toNat + c.toNat)
def ror (c : Bool) (m : Byte) : Byte := low (m.toNat / 2 + 128 * c.toNat)

/-- Bit 7 and bit 0 of a byte. -/
def bit7 (m : Byte) : Bool := decide (128 ≤ m.toNat)
def bit0 (m : Byte) : Bool := decide (m.toNat % 2 = 1)

/-- `A <- v; UpdateZN(v)`, and the same for `X` and for `Y`. -/
def withA (v : Byte) (s : State) : State := withZN v { s with A := v }
def withX (v : Byte) (s : State) : State := withZN v { s with X := v }
def withY (v : Byte) (s : State) : State := withZN v { s with Y := v }

/-! ## Steps -/

/-- `s` after the fetch of the instruction `i` (R322, R325): `PC` has moved past it, `opcode` holds its first byte,
and the bus record holds its reads. -/
def fetched (i : Instr) (s : State) : State :=
  { accessed ((List.range i.length).map fun k => .read (s.PC + BitVec.ofNat 16 k)) { s with bus := [] } with
    PC := s.PC + BitVec.ofNat 16 i.length
    opcode := s.peek s.PC }

/-- The three bytes at `PC`, as reads of them in order give them. -/
def nextBytes (s : State) : List Byte :=
  [s.peek s.PC, readAfter s [.read s.PC] (s.PC + 1), readAfter s [.read s.PC, .read (s.PC + 1)] (s.PC + 2)]

/-- The condition that a branch tests (R245 to R252). -/
def branchTaken : Operation → State → Option Bool
  | .bpl, s => some (!s.N)
  | .bmi, s => some s.N
  | .bvc, s => some (!s.V)
  | .bvs, s => some s.V
  | .bcc, s => some (!s.C)
  | .bcs, s => some s.C
  | .bne, s => some (!s.Z)
  | .beq, s => some s.Z
  | _, _ => none

/-- The target of a branch with offset `r`, `PC` addressing the next instruction (R133). -/
def branchTarget (r : Byte) (s : State) : Nat := (((s.PC.toNat : Int) + signed r) % 65536).toNat

/-- What a taken branch adds (R330): 1, and 1 more when the target is in another page. -/
def branchExtra (r : Byte) (s : State) : Nat :=
  if branchTarget r s / 256 = s.PC.toNat / 256 then 1 else 2

/-- The cost of an instruction, whatever its kind (R331). -/
def instructionCost (i : Instr) (s : State) : Nat :=
  match i.operand, branchTaken i.operation s with
  | .rel r, some true => 2 + branchExtra r s
  | .rel _, _ => 2
  | _, _ => cost i s

/-- `s` without what only the host reads (R43), and without the model's records of the last step. -/
def forgetObservers (s : State) : State :=
  { s with opcode := 0, cycles := 0, totalCycles := 0, status := .normal, bus := [] }

/-- The seven flags, `B` excepted, and `S` and `PC` of `t` are those of `s`. -/
def SameContext (s t : State) : Prop :=
  t.C = s.C ∧ t.Z = s.Z ∧ t.I = s.I ∧ t.D = s.D ∧ t.V = s.V ∧ t.N = s.N ∧ t.S = s.S

/-- The default provider answers, and every slot of the stack page is backed. -/
def StackBacked (s : State) : Prop :=
  s.cfg.provider = .default ∧ ∀ b : Byte, backed s.cfg (stackAddr b) = true

/-- The opcode is one of the seventeen halt opcodes (R298, R299). -/
def haltOpcodes : List Byte :=
  [0x02, 0x12, 0x22, 0x32, 0x42, 0x52, 0x62, 0x72, 0x92, 0x93, 0x9B, 0x9F, 0xAB, 0xB2, 0xBB, 0xD2, 0xF2]

end Sys2Proof.Claims

open Sys2Proof Sys2Proof.Machine Sys2Proof.Claims


/-- O1, derived, R90, R91, R92.  For every instruction i and every list of bytes after it: i is well-formed, and
decoding its encoding followed by those bytes answers i, with every operand as it was, and exactly the bytes
after it. -/
def Obligations.DecodeOfEncode : Prop :=
  ∀ (i : Instr) (rest : List Byte), i.wellFormed = true ∧ decode (encode i ++ rest) = .instr i rest

/-- O2, derived, R90, R91, R96.  Whenever the decoder answers an instruction i and the bytes left over, the encoding
of i followed by those bytes is the list of bytes that was decoded: no bit of an instruction's bytes is dropped,
and each byte sequence has one meaning. -/
def Obligations.EncodeOfDecode : Prop :=
  ∀ (bytes : List Byte) (i : Instr) (rest : List Byte), decode bytes = .instr i rest → encode i ++ rest = bytes

/-- O3, derived, R90, R96, R323.  Whatever three bytes stand first, the decoder answers an instruction. Its opcode
is the first byte, its operation and its addressing mode are those of the dispatch table's entry of that byte,
and its length in bytes is the one R90 gives the mode: 1 for implied, accumulator and the halt opcodes, 3 for
the modes with a 16-bit operand, else 2. With fewer bytes than the mode needs the decoder refuses by name: these
last three clauses are the model's own choice (log entry 17, DESIGN CHOICE), which no rule of the spec states
and no step can meet. -/
def Obligations.DecodingIsTotal : Prop :=
  ∀ (op b1 b2 : Byte) (rest : List Byte),
    (∃ i, decode (op :: b1 :: b2 :: rest) = .instr i ((op :: b1 :: b2 :: rest).drop i.length) ∧
      i.opcode = op ∧ i.operation = (dispatchEntry op).operation ∧ i.operand.mode = (dispatchEntry op).mode ∧
      i.length = (encode i).length ∧
      i.length =
        match (dispatchEntry op).mode with
        | none | some .imp | some .acc => 1
        | some .abs | some .abx | some .aby | some .ind => 3
        | _ => 2) ∧
    decode [] = .error .noOpcode ∧
    (0 < operandCount op → decode [op] = .error (.missingOperand op)) ∧
    (1 < operandCount op → decode [op, b1] = .error (.missingOperand op))

/-- O4, derived, R91, R92, R97, 92_eei_decisions.md D1, 92_eei_decisions.md D2, 92_eei_decisions.md D3.  Bytes
written out from the opcode matrix and the formats decode as they should: LDA #, STA abs, ADC (zp),Y, BIT zp,
ASL A, ROR abs,X, JMP (abs), BNE, JSR, BRK, RTI, SED, LDX zp,Y, SLO (zp,X), SHX abs,Y, an undocumented NOP abs,X
and a halt opcode. The cells of the matrix are R97's, which marks them as the spec's own decisions: D1 for all
of them, D3 for the undocumented NOP 0x1C and D2 for the halt 0xAB. -/
def Obligations.SampleWordsDecode : Prop :=
  decode [0xA9, 0x42] = .instr (.ldaImm 0x42) [] ∧
  decode [0x8D, 0x00, 0x02] = .instr (.staAbs 0x0200) [] ∧
  decode [0x71, 0xFF] = .instr (.adcIzy 0xFF) [] ∧
  decode [0x24, 0x10] = .instr (.bitZp 0x10) [] ∧
  decode [0x0A] = .instr .aslAcc [] ∧
  decode [0x7E, 0xF0, 0x12] = .instr (.rorAbx 0x12F0) [] ∧
  decode [0x6C, 0xFF, 0x10] = .instr (.jmpInd 0x10FF) [] ∧
  decode [0xD0, 0xFE, 0x60] = .instr (.bne 0xFE) [0x60] ∧
  decode [0x20, 0x00, 0x07] = .instr (.jsr 0x0700) [] ∧
  decode [0x00, 0xEA] = .instr .brk [0xEA] ∧
  decode [0x40] = .instr .rti [] ∧
  decode [0xF8] = .instr .sed [] ∧
  decode [0xB6, 0xF0] = .instr (.ldxZpy 0xF0) [] ∧
  decode [0x03, 0x20] = .instr (.sloIzx 0x20) [] ∧
  decode [0x9E, 0x00, 0x12] = .instr (.shxAby 0x1200) [] ∧
  decode [0x1C, 0xF0, 0x12] = .instr (.nopAbx1C 0x12F0) [] ∧
  decode [0xAB, 0x55] = .instr .kilAB [0x55]

/-- O5, derived, 30_encoding.md section 2, R329.  An opcode is page-cross eligible in the dispatch table exactly
when it is one of the 31 that R99 lists, and exactly when its operation is a read and its mode is absolute,X,
absolute,Y or indirect-indexed. Beside it: of the 256 opcodes 17 halt, and of the others 151 are documented and
88 are not. The membership of the set is the spec's own derivation from its opcode matrix (R99). -/
def Obligations.PageCrossEligibilitySet : Prop :=
  (∀ op : Byte, (dispatchEntry op).eligible = true ↔
    op ∈ ([0x11, 0x19, 0x1D, 0x31, 0x39, 0x3D, 0x51, 0x59, 0x5D, 0x71, 0x79, 0x7D, 0xB1, 0xB9, 0xBD,
      0xD1, 0xD9, 0xDD, 0xF1, 0xF9, 0xFD, 0xBC, 0xBE, 0xB3, 0xBF, 0x1C, 0x3C, 0x5C, 0x7C, 0xDC, 0xFC] : List Byte)) ∧
  (∀ op : Byte, (dispatchEntry op).eligible = true ↔
    opClass (dispatchEntry op).operation (dispatchEntry op).mode = .read ∧
      ((dispatchEntry op).mode = some .abx ∨ (dispatchEntry op).mode = some .aby ∨
        (dispatchEntry op).mode = some .izy)) ∧
  (∀ op : Byte, (dispatchEntry op).operation = .kil ↔ op ∈ haltOpcodes) ∧
  (allOpcodes.filter fun op => documented op).length = 151 ∧
  (allOpcodes.filter fun op => !documented op && (dispatchEntry op).operation != .kil).length = 88 ∧
  allOpcodes.length = 256

/-- O6, derived, 30_encoding.md section 3.  The two ANC opcodes have one behaviour, so have SBC # under 0xE9 and
0xEB, and the six one-byte undocumented NOPs equal 0xEA. Every instruction of a documented opcode is what an
assembler emits for its operation and operand; for a pair of operation and mode without a documented opcode it
emits the lowest opcode of the pair, which decodes to the same operation and operand. The spec marks the rule as
its own derivation from its opcode matrix (R104). -/
def Obligations.DuplicateEncodings : Prop :=
  (∀ v s, exec (.ancImm0B v) s = exec (.ancImm2B v) s ∧ exec (.sbcImmEB v) s = exec (.sbcImm v) s) ∧
  (∀ s, exec .nopImp1A s = exec .nop s ∧ exec .nopImp3A s = exec .nop s ∧ exec .nopImp5A s = exec .nop s ∧
    exec .nopImp7A s = exec .nop s ∧ exec .nopImpDA s = exec .nop s ∧ exec .nopImpFA s = exec .nop s) ∧
  (∀ i : Instr, documented i.opcode = true → assemble i.asm = some (encode i)) ∧
  (∀ i : Instr, (∀ o ∈ opcodesFor i.operation i.operand.mode, documented o = false) →
    ∃ j : Instr, assemble i.asm = some (encode j) ∧ j.asm = i.asm ∧
      ∀ o ∈ opcodesFor i.operation i.operand.mode, j.opcode.toNat ≤ o.toNat)

/-- O7, stated, R37, R38.  PackStatus is N*128 + V*64 + 32 + B*16 + D*8 + I*4 + Z*2 + C; UnpackStatus sets the seven
flags from bits 7, 6, 4, 3, 2, 1, 0 and nothing else, so bit 5 is ignored; unpacking the packed flags changes
nothing; packing after unpacking b gives b with bit 5 set; bit 5 of a packed byte is 1. UpdateZN sets Z and N
from the value's being 0 and from its bit 7. -/
def Obligations.StatusBytePacksAndUnpacks : Prop :=
  ∀ (s : State) (b : Byte),
    packStatus s = statusByte s.B s ∧ unpackStatus b s = withStatus b s ∧
    unpackStatus (packStatus s) s = s ∧ packStatus (unpackStatus b s) = b ||| 0x20 ∧
    (packStatus s).getLsbD 5 = true ∧ updateZN b s = withZN b s

/-- O8, derived, R7, R63, R64, 92_eei_decisions.md D20.  In a well-formed state with the default provider: an
address is backed exactly when it lies in the MEM_SIZE addresses from MEM_BASE on, which is everywhere with the
default parameters; a read gives the byte of memory there and FILL elsewhere, and changes nothing but the record
of the bus; after a write of v to a backed address that address reads as v; a write to an address that is not
backed changes no memory; a write changes how no other address reads, and nothing else of the state but the
record of the bus. Which addresses are backed is the interval of R7, read without a wrap past 0xFFFF (log entry
15, DEDUCED), and the default region is the spec's own decision D20. -/
def Obligations.MemoryReadAfterWrite : Prop :=
  ∀ (s : State) (a b : Addr) (v : Byte), s.wellFormed = true → s.cfg.provider = .default →
    backed s.cfg a = decide (s.cfg.memBase ≤ a.toNat ∧ a.toNat < s.cfg.memBase + s.cfg.memSize) ∧
    backed Config.default a = true ∧
    memRead a s = (if backed s.cfg a = true then s.mem.read a.toNat else s.cfg.fill,
      { s with bus := s.bus ++ [.read a] }) ∧
    (backed s.cfg a = true → (memWrite a v s).peek a = v) ∧
    (backed s.cfg a = false → (memWrite a v s).mem = s.mem) ∧
    (b ≠ a → (memWrite a v s).peek b = s.peek b) ∧
    memWrite a v s = { s with mem := (memWrite a v s).mem, bus := s.bus ++ [.write a v] }

/-- O9, derived, R22, R66, 10_state.md section 4, 92_eei_decisions.md D4.  The slot of pointer value p is 0x0100 +
p. Push8 writes at the slot of S and then lowers S by 1, modulo 256; Pull8 raises S by 1, modulo 256, and then
reads at the slot of S; neither changes anything else. A 16-bit push writes the high byte, then the low byte; a
16-bit pull reads the low byte, then the high byte; Read16 reads the low byte at the address and then the high
byte at the next, modulo 65536. The page number, the direction and the order of access and count are the spec's
own decision D4. -/
def Obligations.StackPushesAndPulls : Prop :=
  (∀ p : Byte, (stackAddr p).toNat = 0x0100 + p.toNat) ∧
  (∀ (s : State) (v : Byte), s.wellFormed = true →
    ∃ t, push8 v s = t ∧
      t = { accessed [.write (stackAddr s.S) v] s with S := low (s.S.toNat + 255) } ∧
      Stores s t [(stackAddr s.S, v)]) ∧
  (∀ s : State, pull8 s =
    (s.peek (stackAddr (low (s.S.toNat + 1))),
      { accessed [.read (stackAddr (low (s.S.toNat + 1)))] s with S := low (s.S.toNat + 1) })) ∧
  (∀ (s : State) (w : Addr), s.wellFormed = true →
    ∃ t, push16 w s = t ∧
      t = { accessed [.write (stackAddr s.S) (low (w.toNat / 256)),
              .write (stackAddr (low (s.S.toNat + 255))) (low w.toNat)] s with
            S := low (s.S.toNat + 254) } ∧
      Stores s t [(stackAddr s.S, low (w.toNat / 256)), (stackAddr (low (s.S.toNat + 255)), low w.toNat)]) ∧
  (∀ (s : State) (slot1 slot2 : Addr),
    slot1 = stackAddr (low (s.S.toNat + 1)) → slot2 = stackAddr (low (s.S.toNat + 2)) →
    pull16 s = (word (readAfter s [.read slot1] slot2) (s.peek slot1),
      { accessed [.read slot1, .read slot2] s with S := low (s.S.toNat + 2) })) ∧
  (∀ (s : State) (a b : Addr), b = BitVec.ofNat 16 (a.toNat + 1) →
    read16 a s = (word (readAfter s [.read a] b) (s.peek a), accessed [.read a, .read b] s))

/-- O10, derived, R124, R125, R126, R127, R129, R131, R132, R134, 92_eei_decisions.md D25.  For each of the eight
modes that name a byte of memory: the bytes it consumes, the effective address in plain arithmetic (zero-page
sums and pointer bytes wrap modulo 256, other addresses modulo 65536), whether it reports a page cross (the high
bytes of base and result differ; only absolute,X, absolute,Y and indirect-indexed can), and the pointer reads;
nothing but the record of the bus and the state of an injected provider changes. Zero-page,Y is used by the
opcodes 0xB6 0x96 0xB7 0x97 alone. The wrap of the pointer of (zp),Y inside zero page (R130) is the spec's own
decision D25. -/
def Obligations.ResolverAddresses : Prop :=
  (∀ a b : Addr, pageCrossed a b = decide (a.toNat / 256 ≠ b.toNat / 256)) ∧
  (∀ op : Byte, (dispatchEntry op).mode = some .zpy ↔ op ∈ ([0xB6, 0x96, 0xB7, 0x97] : List Byte)) ∧
  Mode.zp.operandBytes = 1 ∧ Mode.zpx.operandBytes = 1 ∧ Mode.zpy.operandBytes = 1 ∧
  Mode.izx.operandBytes = 1 ∧ Mode.izy.operandBytes = 1 ∧
  Mode.abs.operandBytes = 2 ∧ Mode.abx.operandBytes = 2 ∧ Mode.aby.operandBytes = 2 ∧
  (∀ (s : State) (z : Byte),
    resolve (.zp z) s = (⟨BitVec.ofNat 16 z.toNat, false⟩, s) ∧
    resolve (.zpx z) s = (⟨BitVec.ofNat 16 ((z.toNat + s.X.toNat) % 256), false⟩, s) ∧
    resolve (.zpy z) s = (⟨BitVec.ofNat 16 ((z.toNat + s.Y.toNat) % 256), false⟩, s) ∧
    resolve (.izx z) s =
      (⟨word (readAfter s [.read (BitVec.ofNat 16 ((z.toNat + s.X.toNat) % 256))]
            (BitVec.ofNat 16 ((z.toNat + s.X.toNat + 1) % 256)))
          (s.peek (BitVec.ofNat 16 ((z.toNat + s.X.toNat) % 256))), false⟩,
        accessed (pointerReads (.izx z) s) s) ∧
    (∀ base : Addr,
      base = word (readAfter s [.read (BitVec.ofNat 16 z.toNat)] (BitVec.ofNat 16 ((z.toNat + 1) % 256)))
        (s.peek (BitVec.ofNat 16 z.toNat)) →
      resolve (.izy z) s =
        (⟨BitVec.ofNat 16 (base.toNat + s.Y.toNat),
            decide ((base.toNat + s.Y.toNat) % 65536 / 256 ≠ base.toNat / 256)⟩,
          accessed (pointerReads (.izy z) s) s))) ∧
  (∀ (s : State) (w : Addr),
    resolve (.abs w) s = (⟨w, false⟩, s) ∧
    resolve (.abx w) s =
      (⟨BitVec.ofNat 16 (w.toNat + s.X.toNat), decide ((w.toNat + s.X.toNat) % 65536 / 256 ≠ w.toNat / 256)⟩, s) ∧
    resolve (.aby w) s =
      (⟨BitVec.ofNat 16 (w.toNat + s.Y.toNat), decide ((w.toNat + s.Y.toNat) % 65536 / 256 ≠ w.toNat / 256)⟩, s))

/-- O11, stated, R150, R151, R152.  Each load has exactly the forms of its rule. In every form and every state it
completes: the register holds the operand's value, Z and N come from that value, the operand is read once after
the pointer reads of its mode, the cost is the base cost plus 1 for an eligible opcode that crosses a page, and
nothing else changes. -/
def Obligations.LoadsSetRegisterAndFlags : Prop :=
  HasForms .lda [form 0xA9 .imm 2, form 0xA5 .zp 3, form 0xB5 .zpx 4, form 0xAD .abs 4, formPlus 0xBD .abx 4,
    formPlus 0xB9 .aby 4, form 0xA1 .izx 6, formPlus 0xB1 .izy 5] ∧
  HasForms .ldx [form 0xA2 .imm 2, form 0xA6 .zp 3, form 0xB6 .zpy 4, form 0xAE .abs 4, formPlus 0xBE .aby 4] ∧
  HasForms .ldy [form 0xA0 .imm 2, form 0xA4 .zp 3, form 0xB4 .zpx 4, form 0xAC .abs 4, formPlus 0xBC .abx 4] ∧
  ∀ (i : Instr) (s : State),
    (i.operation = .lda → Reads i s withA) ∧
    (i.operation = .ldx → Reads i s withX) ∧
    (i.operation = .ldy → Reads i s withY)

/-- O12, stated, R281.  LAX has exactly the six forms of R281. In each it completes: A and X hold the operand's
value, Z and N come from it, the operand is read once, the page-cross cycle is charged on BF and B3 alone, and
nothing else changes. -/
def Obligations.LoadAccumulatorAndX : Prop :=
  HasForms .lax [form 0xA7 .zp 3, form 0xB7 .zpy 4, form 0xAF .abs 4, formPlus 0xBF .aby 4, form 0xA3 .izx 6,
    formPlus 0xB3 .izy 5] ∧
  ∀ (i : Instr) (s : State), i.operation = .lax → Reads i s (fun v t => withX v (withA v t))

/-- O13, stated, R153, R154, R155.  Each store has exactly the forms of its rule, none immediate. In every well-
formed state it completes: the register is written once at the effective address, which is not read, every other
address reads as before, the cost is the base cost whether or not the index crosses a page, and nothing else
changes; a store outside the backed region stores nothing. -/
def Obligations.StoresWriteOneByte : Prop :=
  HasForms .sta [form 0x85 .zp 3, form 0x95 .zpx 4, form 0x8D .abs 4, form 0x9D .abx 5, form 0x99 .aby 5,
    form 0x81 .izx 6, form 0x91 .izy 6] ∧
  HasForms .stx [form 0x86 .zp 3, form 0x96 .zpy 4, form 0x8E .abs 4] ∧
  HasForms .sty [form 0x84 .zp 3, form 0x94 .zpx 4, form 0x8C .abs 4] ∧
  ∀ (i : Instr) (s : State), s.wellFormed = true →
    (i.operation = .sta → Writes i s s.A) ∧
    (i.operation = .stx → Writes i s s.X) ∧
    (i.operation = .sty → Writes i s s.Y)

/-- O14, derived, R282, 47_undocumented.md section 4, 92_eei_decisions.md D15.  SAX has the four forms of R282 and
stores A AND X. SHX has the form absolute,Y and stores X AND the high byte of its operand word plus one, modulo
256, at the word plus Y; SHY has the form absolute,X and does the same with Y, at the word plus X. In every
well-formed state each completes with that one write, at its fixed cost, and changes nothing else. What SHX and
SHY store, and where, is the spec's own decision D15. -/
def Obligations.UndocumentedStores : Prop :=
  HasForms .sax [form 0x87 .zp 3, form 0x97 .zpy 4, form 0x8F .abs 4, form 0x83 .izx 6] ∧
  HasForms .shx [form 0x9E .aby 5] ∧
  HasForms .shy [form 0x9C .abx 5] ∧
  (∀ (i : Instr) (s : State), s.wellFormed = true → i.operation = .sax → Writes i s (s.A &&& s.X)) ∧
  (∀ (w : Addr) (s : State), s.wellFormed = true →
    Writes (.shxAby w) s (s.X &&& low (w.toNat / 256 + 1)) ∧
    effectiveAddress (.aby w) s = BitVec.ofNat 16 (w.toNat + s.Y.toNat) ∧
    Writes (.shyAbx w) s (s.Y &&& low (w.toNat / 256 + 1)) ∧
    effectiveAddress (.abx w) s = BitVec.ofNat 16 (w.toNat + s.X.toNat))

/-- O15, stated, R156, R157, R158, R159, R160, R161.  TAX, TAY, TXA, TYA, TSX and TXS are one implied opcode each of
2 cycles. Each completes in every state: the destination holds the source, Z and N come from it except after
TXS, which writes no flag, no memory is accessed, and nothing else changes. -/
def Obligations.TransfersCopyRegisters : Prop :=
  HasForms .tax [form 0xAA .imp 2] ∧
  HasForms .tay [form 0xA8 .imp 2] ∧
  HasForms .txa [form 0x8A .imp 2] ∧
  HasForms .tya [form 0x98 .imp 2] ∧
  HasForms .tsx [form 0xBA .imp 2] ∧
  HasForms .txs [form 0x9A .imp 2] ∧
  ∀ s : State,
    Plain .tax s 2 (withX s.A) ∧ Plain .tay s 2 (withY s.A) ∧ Plain .txa s 2 (withA s.X) ∧
    Plain .tya s 2 (withA s.Y) ∧ Plain .tsx s 2 (withX s.S) ∧ Plain .txs s 2 (fun t => { t with S := s.X })

/-- O16, stated, R165, R166.  PHA and PHP are one implied opcode each of 3 cycles. In every well-formed state each
completes: one byte is written at the slot of S, A for PHA, for PHP the status byte with bits 5 and 4 set
whatever the stored B; S goes down by 1 modulo 256; every other address reads as before; no flag and nothing
else changes. -/
def Obligations.PushInstructions : Prop :=
  HasForms .pha [form 0x48 .imp 3] ∧
  HasForms .php [form 0x08 .imp 3] ∧
  ∀ s : State, s.wellFormed = true →
    (∃ t, exec .pha s = .next t ∧
      t = { ended 3 [.write (stackAddr s.S) s.A] s with S := low (s.S.toNat + 255) } ∧
      Stores s t [(stackAddr s.S, s.A)]) ∧
    (∃ t, exec .php s = .next t ∧
      t = { ended 3 [.write (stackAddr s.S) (statusByte true s)] s with S := low (s.S.toNat + 255) } ∧
      Stores s t [(stackAddr s.S, statusByte true s)])

/-- O17, derived, R167, R38, 92_eei_decisions.md D24.  PLA and PLP are one implied opcode each of 4 cycles. Each
completes in every state: S goes up by 1 modulo 256 and one byte is read at its slot; PLA puts it in A and sets
Z and N from it; PLP sets all seven flags from its bits 7, 6, 4, 3, 2, 1, 0; nothing else changes. That PLP
loads every flag, B included, is the spec's own decision D24. -/
def Obligations.PullInstructions : Prop :=
  HasForms .pla [form 0x68 .imp 4] ∧
  HasForms .plp [form 0x28 .imp 4] ∧
  ∀ (s : State) (slot : Addr), slot = stackAddr (low (s.S.toNat + 1)) →
    Accesses .pla s 4 [.read slot] (fun t => withA (s.peek slot) { t with S := low (s.S.toNat + 1) }) ∧
    Accesses .plp s 4 [.read slot] (fun t => withStatus (s.peek slot) { t with S := low (s.S.toNat + 1) })

/-- O18, derived, R182, 42_arithmetic_compare.md section 2.  AddBinary(a, v, c) returns the sum modulo 256, the
carry of the sum above 255, and the overflow bit of the formula of R182; the overflow is 1 exactly when a and v
have the same bit 7 and r has the other, and exactly when the signed sum leaves -128..127; with the one's
complement of v it is 1 exactly when a - v - (1 - c), signed, leaves that range. The two readings of the
overflow are R183's, which the spec marks as its own derivation from R182. -/
def Obligations.BinaryAdditionAndOverflow : Prop :=
  ∀ (a v : Byte) (c : Bool),
    (addBinary a v c).r.toNat = (a.toNat + v.toNat + c.toNat) % 256 ∧
    (addBinary a v c).cb = decide (255 < a.toNat + v.toNat + c.toNat) ∧
    (addBinary a v c).ov = ((~~~(a ^^^ v) &&& (a ^^^ (addBinary a v c).r) &&& 0x80) != 0) ∧
    ((addBinary a v c).ov = true ↔ bit7 a = bit7 v ∧ bit7 (addBinary a v c).r ≠ bit7 a) ∧
    (addBinary a v c).ov = overflows (signed a + signed v + c.toNat) ∧
    (addBinary a (v ^^^ 0xFF) c).ov = overflows (signed a - signed v - (1 - (c.toNat : Int)))

/-- O19, derived, 42_arithmetic_compare.md section 2, 92_eei_decisions.md D13.  For every a, v and c AddDecimal
gives the nibble sums of R184, each corrected by 6 above 9 with a carry of 1 into the high nibble, and the carry
of the corrected high nibble. For two valid BCD numbers x and y below 100, r is the BCD form of (x + y + c) mod
100 and the carry says that the sum is at least 100. The exact algorithm is the spec's own decision D13 (R184). -/
def Obligations.DecimalAddition : Prop :=
  (∀ (a v : Byte) (c : Bool),
    addDecimal a v c = ⟨low (decimalSum a v c).1, (decimalSum a v c).2⟩) ∧
  (∀ (x y : Fin 100) (c : Bool),
    addDecimal (low (x.val / 10 * 16 + x.val % 10)) (low (y.val / 10 * 16 + y.val % 10)) c =
      ⟨low ((x.val + y.val + c.toNat) % 100 / 10 * 16 + (x.val + y.val + c.toNat) % 10),
        decide (100 ≤ x.val + y.val + c.toNat)⟩)

/-- O20, derived, 42_arithmetic_compare.md section 2, 92_eei_decisions.md D13.  For every a, v and c SubDecimal
gives the nibble differences of R186, each corrected by 6 below 0 with a borrow of 1 from the high nibble; the
high nibble's borrow is the complement of the binary carry of a - v - (1 - c). For two valid BCD numbers x and y
below 100, r is the BCD form of (x - y - (1 - c)) mod 100. The exact algorithm is the spec's own decision D13,
and the equality of the borrows its own derivation (R186). -/
def Obligations.DecimalSubtraction : Prop :=
  (∀ (a v : Byte) (c : Bool),
    subDecimal a v c = low (decimalDifference a v c) ∧
    (addBinary a (v ^^^ 0xFF) c).cb =
      decide (0 ≤ (a.toNat / 16 : Nat) - (v.toNat / 16 : Nat) -
        (if (a.toNat % 16 : Nat) - (v.toNat % 16 : Nat) - (1 - (c.toNat : Int)) < 0 then 1 else 0 : Int))) ∧
  (∀ (x y : Fin 100) (c : Bool),
    subDecimal (low (x.val / 10 * 16 + x.val % 10)) (low (y.val / 10 * 16 + y.val % 10)) c =
      low ((x.val + 99 + c.toNat - y.val) % 100 / 10 * 16 + (x.val + 99 + c.toNat - y.val) % 10))

/-- O21, derived, R182, 42_arithmetic_compare.md section 3, 92_eei_decisions.md D12, 92_eei_decisions.md D13.  ADC
has exactly the eight forms of R181. In each it completes in every state: Z, N and V come from the binary sum A
+ m + C in both modes; with D = 0, A is the sum modulo 256 and C its carry; with D = 1, A and C are the decimal
sum's; nothing else changes but the cost and the record of the bus. V in decimal mode is the spec's own decision
D12 and the decimal algorithm D13 (R181). -/
def Obligations.AddWithCarry : Prop :=
  HasForms .adc [form 0x69 .imm 2, form 0x65 .zp 3, form 0x75 .zpx 4, form 0x6D .abs 4, formPlus 0x7D .abx 4,
    formPlus 0x79 .aby 4, form 0x61 .izx 6, formPlus 0x71 .izy 5] ∧
  ∀ (i : Instr) (s : State), i.operation = .adc → Reads i s afterAdd

/-- O22, derived, R182, 42_arithmetic_compare.md section 3, 92_eei_decisions.md D3, 92_eei_decisions.md D12,
92_eei_decisions.md D13.  SBC has exactly the eight forms of R185 and the duplicate 0xEB. In each it completes
in every state: C says that A - m - (1 - C) does not borrow, Z, N and V come from that binary difference in both
modes; A is the difference modulo 256 with D = 0 and the decimal difference with D = 1; nothing else changes but
the cost and the record of the bus. V in decimal mode is the spec's own decision D12, the decimal algorithm D13,
and the duplicate opcode D3 (R185, R297). -/
def Obligations.SubtractWithBorrow : Prop :=
  HasForms .sbc [form 0xE9 .imm 2, form 0xE5 .zp 3, form 0xF5 .zpx 4, form 0xED .abs 4, formPlus 0xFD .abx 4,
    formPlus 0xF9 .aby 4, form 0xE1 .izx 6, formPlus 0xF1 .izy 5, form 0xEB .imm 2] ∧
  ∀ (i : Instr) (s : State), i.operation = .sbc → Reads i s afterSubtract

/-- O23, stated, R187, R188, R189, R190.  Compare(reg, m) sets C to reg >= m (the 9-bit difference is below 0x100),
Z to reg = m and N to bit 7 of the difference, and nothing else. CMP, CPX and CPY have exactly the forms of
their rules and complete in every state with the compare of A, X or Y and the operand's value, at their cost; no
register, no V and no memory changes. -/
def Obligations.ComparesSetFlags : Prop :=
  (∀ (reg m : Byte) (s : State), Sys2Proof.Machine.compare reg m s = afterCompare reg m s ∧
    decide ((reg.toNat + 512 - m.toNat) % 512 < 0x100) = decide (m.toNat ≤ reg.toNat)) ∧
  HasForms .cmp [form 0xC9 .imm 2, form 0xC5 .zp 3, form 0xD5 .zpx 4, form 0xCD .abs 4, formPlus 0xDD .abx 4,
    formPlus 0xD9 .aby 4, form 0xC1 .izx 6, formPlus 0xD1 .izy 5] ∧
  HasForms .cpx [form 0xE0 .imm 2, form 0xE4 .zp 3, form 0xEC .abs 4] ∧
  HasForms .cpy [form 0xC0 .imm 2, form 0xC4 .zp 3, form 0xCC .abs 4] ∧
  ∀ (i : Instr) (s : State),
    (i.operation = .cmp → Reads i s (afterCompare s.A)) ∧
    (i.operation = .cpx → Reads i s (afterCompare s.X)) ∧
    (i.operation = .cpy → Reads i s (afterCompare s.Y))

/-- O24, stated, R200, R201, R202.  Each has exactly the eight forms of its rule and completes in every state: A is
the bitwise and, or, or exclusive or of A and the operand's value, Z and N come from the new A, and nothing else
changes but the cost and the record of the bus. -/
def Obligations.LogicOnAccumulator : Prop :=
  HasForms .and [form 0x29 .imm 2, form 0x25 .zp 3, form 0x35 .zpx 4, form 0x2D .abs 4, formPlus 0x3D .abx 4,
    formPlus 0x39 .aby 4, form 0x21 .izx 6, formPlus 0x31 .izy 5] ∧
  HasForms .ora [form 0x09 .imm 2, form 0x05 .zp 3, form 0x15 .zpx 4, form 0x0D .abs 4, formPlus 0x1D .abx 4,
    formPlus 0x19 .aby 4, form 0x01 .izx 6, formPlus 0x11 .izy 5] ∧
  HasForms .eor [form 0x49 .imm 2, form 0x45 .zp 3, form 0x55 .zpx 4, form 0x4D .abs 4, formPlus 0x5D .abx 4,
    formPlus 0x59 .aby 4, form 0x41 .izx 6, formPlus 0x51 .izy 5] ∧
  ∀ (i : Instr) (s : State),
    (i.operation = .and → Reads i s (fun m => withA (s.A &&& m))) ∧
    (i.operation = .ora → Reads i s (fun m => withA (s.A ||| m))) ∧
    (i.operation = .eor → Reads i s (fun m => withA (s.A ^^^ m)))

/-- O25, stated, R203.  BIT has exactly the forms zero page and absolute and completes in every state: Z says that A
AND m is 0, N is bit 7 of m and V is bit 6 of m, where m is the operand and not the AND; nothing else changes
but the cost and the record of the bus. -/
def Obligations.BitTest : Prop :=
  HasForms .bit [form 0x24 .zp 3, form 0x2C .abs 4] ∧
  ∀ (i : Instr) (s : State), i.operation = .bit →
    Reads i s (fun m t => { t with
      Z := decide ((s.A &&& m).toNat = 0), N := bit7 m, V := decide (m.toNat / 64 % 2 = 1) })

/-- O26, stated, R204, R205.  INC and DEC have exactly the four forms of their rules. In every well-formed state
each completes: the byte at the effective address is read once and written back once as itself plus or minus 1,
modulo 256, Z and N come from the byte written, every other address reads as before, C, V and every register
keep their values, and the cost is fixed. -/
def Obligations.IncrementAndDecrementMemory : Prop :=
  HasForms .inc [form 0xE6 .zp 5, form 0xF6 .zpx 6, form 0xEE .abs 6, form 0xFE .abx 7] ∧
  HasForms .dec [form 0xC6 .zp 5, form 0xD6 .zpx 6, form 0xCE .abs 6, form 0xDE .abx 7] ∧
  ∀ (i : Instr) (s : State), s.wellFormed = true →
    (i.operation = .inc →
      Modifies i s (fun m => low (m.toNat + 1)) (fun m => withZN (low (m.toNat + 1)))) ∧
    (i.operation = .dec →
      Modifies i s (fun m => low (m.toNat + 255)) (fun m => withZN (low (m.toNat + 255))))

/-- O27, stated, R206, R207, R208, R209.  Each is one implied opcode of 2 cycles and completes in every state: the
index register goes up or down by 1 modulo 256, Z and N come from the result, no memory is accessed, and nothing
else changes. -/
def Obligations.IncrementAndDecrementIndex : Prop :=
  HasForms .inx [form 0xE8 .imp 2] ∧
  HasForms .iny [form 0xC8 .imp 2] ∧
  HasForms .dex [form 0xCA .imp 2] ∧
  HasForms .dey [form 0x88 .imp 2] ∧
  ∀ s : State,
    Plain .inx s 2 (withX (low (s.X.toNat + 1))) ∧ Plain .iny s 2 (withY (low (s.Y.toNat + 1))) ∧
    Plain .dex s 2 (withX (low (s.X.toNat + 255))) ∧ Plain .dey s 2 (withY (low (s.Y.toNat + 255)))

/-- O28, stated, R230, R231, R232, R233, R234.  Each has exactly the five forms of its rule. In every well-formed
state each completes: the operand, A or the byte at the effective address, is moved by one bit, the bit moved
out goes to C, the prior C enters the vacated bit of a rotate and 0 that of a shift, Z and N come from the
result; in a memory form the byte is read once and written once, every other address reads as before and A is
untouched; the cost is fixed and nothing else changes. -/
def Obligations.ShiftsAndRotates : Prop :=
  HasForms .asl [form 0x0A .acc 2, form 0x06 .zp 5, form 0x16 .zpx 6, form 0x0E .abs 6, form 0x1E .abx 7] ∧
  HasForms .lsr [form 0x4A .acc 2, form 0x46 .zp 5, form 0x56 .zpx 6, form 0x4E .abs 6, form 0x5E .abx 7] ∧
  HasForms .rol [form 0x2A .acc 2, form 0x26 .zp 5, form 0x36 .zpx 6, form 0x2E .abs 6, form 0x3E .abx 7] ∧
  HasForms .ror [form 0x6A .acc 2, form 0x66 .zp 5, form 0x76 .zpx 6, form 0x6E .abs 6, form 0x7E .abx 7] ∧
  ∀ (i : Instr) (s : State), s.wellFormed = true →
    (i.operation = .asl → Modifies i s asl (fun m t => withZN (asl m) { t with C := bit7 m })) ∧
    (i.operation = .lsr → Modifies i s lsr (fun m t => withZN (lsr m) { t with C := bit0 m })) ∧
    (i.operation = .rol → Modifies i s (rol s.C) (fun m t => withZN (rol s.C m) { t with C := bit7 m })) ∧
    (i.operation = .ror → Modifies i s (ror s.C) (fun m t => withZN (ror s.C m) { t with C := bit0 m }))

/-- O29, stated, R128, R241.  JMP has the forms absolute and indirect, and indirect is the mode of opcode 0x6C
alone. JMP indirect completes in every state at cost 5: PC gets the little-endian word at the pointer, whose
high byte is read at the start of the pointer's own page when INDIRECT_BUG holds and the pointer ends in 0xFF,
else at the next address modulo 65536; the two reads are in this order, and nothing else changes. -/
def Obligations.IndirectJump : Prop :=
  HasForms .jmp [form 0x4C .abs 3, form 0x6C .ind 5] ∧
  (∀ op : Byte, (dispatchEntry op).mode = some .ind ↔ op = 0x6C) ∧
  ∀ (p hi : Addr) (s : State),
    hi = (if s.cfg.indirectBug = true ∧ p.toNat % 256 = 255 then BitVec.ofNat 16 (p.toNat - 255)
      else BitVec.ofNat 16 (p.toNat + 1)) →
    Accesses (.jmpInd p) s 5 [.read p, .read hi]
      (fun t => { t with PC := word (readAfter s [.read p] hi) (s.peek p) })

/-- O30, derived, R240, R243, 45_control_flow.md section 2, 92_eei_decisions.md D17.  JMP absolute completes in
every state at cost 3 with PC at its operand. JSR completes in every well-formed state at cost 6: the address PC
- 1 of its own last byte is pushed, high byte first, S goes down by 2 modulo 256, PC is its operand, every
address outside the two slots reads as before. RTS completes in every state at cost 6: PC is the word in the two
slots above S, low byte first, plus 1 modulo 65536, and S goes up by 2. No flag and nothing else changes. The
forms are those of the rules. That a JSR fetches both operand bytes before it pushes is the spec's own decision
D17 (R242). -/
def Obligations.JumpsAndSubroutines : Prop :=
  HasForms .jmp [form 0x4C .abs 3, form 0x6C .ind 5] ∧
  HasForms .jsr [form 0x20 .abs 6] ∧
  HasForms .rts [form 0x60 .imp 6] ∧
  (∀ (w : Addr) (s : State), Plain (.jmpAbs w) s 3 (fun t => { t with PC := w })) ∧
  (∀ (w : Addr) (s : State) (ret : Nat), s.wellFormed = true → ret = (s.PC.toNat + 65535) % 65536 →
    ∃ t ws, ws = [(stackAddr s.S, low (ret / 256)), (stackAddr (s.S - 1), low ret)] ∧
      exec (.jsr w) s = .next t ∧
      t = { ended 6 (busWrites ws) s with S := s.S - 2, PC := w } ∧ Stores s t ws) ∧
  (∀ (s : State) (slot1 slot2 : Addr), slot1 = stackAddr (s.S + 1) → slot2 = stackAddr (s.S + 2) →
    Accesses .rts s 6 [.read slot1, .read slot2] (fun t => { t with
      S := s.S + 2
      PC := BitVec.ofNat 16 ((word (readAfter s [.read slot1] slot2) (s.peek slot1)).toNat + 1) }))

/-- O31, derived, R242, R243, R29, R30, 92_eei_decisions.md D4.  Take a well-formed state with the default provider
and the stack page backed, the state after a JSR in it, and any later state with the default provider whose S is
the one the JSR left and whose two stack slots of the return address read as the JSR left them. RTS there
completes with PC at the instruction after the JSR and S as it was before the JSR, for every S, at the wrap of
the stack page too. Where the slots lie, and the order of access and count, are the spec's own decision D4,
which R29 and R30 mark. -/
def Obligations.SubroutineReturnsAfterCall : Prop :=
  ∀ (w : Addr) (s t u : State), s.wellFormed = true → StackBacked s → exec (.jsr w) s = .next t →
    u.cfg.provider = .default → u.S = t.S → u.peek (stackAddr s.S) = t.peek (stackAddr s.S) →
    u.peek (stackAddr (s.S - 1)) = t.peek (stackAddr (s.S - 1)) →
    ∃ v, exec .rts u = .next v ∧ v.PC = s.PC ∧ v.S = s.S

/-- O32, stated, R244, R245, R246, R247, R248, R249, R250, R251, R252, R330.  Each branch is one relative opcode of
base cost 2 and tests the one flag of its rule. Each completes in every state: not taken, it costs 2 and PC
stays at the next instruction; taken, PC is the address of the next instruction plus the signed offset modulo
65536 and it costs 3, or 4 when the target is in another page than the next instruction. No flag and nothing
else changes, and no memory is accessed. -/
def Obligations.ConditionalBranches : Prop :=
  HasForms .bpl [form 0x10 .rel 2] ∧
  HasForms .bmi [form 0x30 .rel 2] ∧
  HasForms .bvc [form 0x50 .rel 2] ∧
  HasForms .bvs [form 0x70 .rel 2] ∧
  HasForms .bcc [form 0x90 .rel 2] ∧
  HasForms .bcs [form 0xB0 .rel 2] ∧
  HasForms .bne [form 0xD0 .rel 2] ∧
  HasForms .beq [form 0xF0 .rel 2] ∧
  ∀ (i : Instr) (r : Byte) (s : State), i.operand = .rel r →
    ∃ taken, branchTaken i.operation s = some taken ∧
      Plain i s (if taken then 2 + branchExtra r s else 2)
        (fun t => { t with PC := if taken then BitVec.ofNat 16 (branchTarget r s) else s.PC })

/-- O33, stated, R270, R271, R272, R273, R274, R275, R276, R277.  CLC, SEC, CLI, SEI, CLD, SED and CLV are one
implied opcode each of 2 cycles; each completes in every state and writes its one flag and nothing else. NOP
0xEA completes at 2 cycles and writes nothing; no memory is accessed. -/
def Obligations.FlagInstructionsAndNop : Prop :=
  HasForms .clc [form 0x18 .imp 2] ∧
  HasForms .sec [form 0x38 .imp 2] ∧
  HasForms .cli [form 0x58 .imp 2] ∧
  HasForms .sei [form 0x78 .imp 2] ∧
  HasForms .cld [form 0xD8 .imp 2] ∧
  HasForms .sed [form 0xF8 .imp 2] ∧
  HasForms .clv [form 0xB8 .imp 2] ∧
  formOf .nop = form 0xEA .imp 2 ∧
  ∀ s : State,
    Plain .clc s 2 (fun t => { t with C := false }) ∧
    Plain .sec s 2 (fun t => { t with C := true }) ∧
    Plain .cli s 2 (fun t => { t with I := false }) ∧
    Plain .sei s 2 (fun t => { t with I := true }) ∧
    Plain .cld s 2 (fun t => { t with D := false }) ∧
    Plain .sed s 2 (fun t => { t with D := true }) ∧
    Plain .clv s 2 (fun t => { t with V := false }) ∧
    Plain .nop s 2 id

/-- O34, stated, R283, R284, R285.  Each has exactly the seven forms of its rule. In every well-formed state each
completes: the byte at the effective address is read once, moved by one bit as ASL, ROL or LSR does, and written
back once; C is the bit moved out; A is the or, and, or exclusive or of A and the byte written; Z and N come
from the new A; every other address reads as before, the cost is fixed and nothing else changes. -/
def Obligations.ShiftThenLogic : Prop :=
  HasForms .slo [form 0x07 .zp 5, form 0x17 .zpx 6, form 0x0F .abs 6, form 0x1F .abx 7, form 0x1B .aby 7,
    form 0x03 .izx 8, form 0x13 .izy 8] ∧
  HasForms .rla [form 0x27 .zp 5, form 0x37 .zpx 6, form 0x2F .abs 6, form 0x3F .abx 7, form 0x3B .aby 7,
    form 0x23 .izx 8, form 0x33 .izy 8] ∧
  HasForms .sre [form 0x47 .zp 5, form 0x57 .zpx 6, form 0x4F .abs 6, form 0x5F .abx 7, form 0x5B .aby 7,
    form 0x43 .izx 8, form 0x53 .izy 8] ∧
  ∀ (i : Instr) (s : State), s.wellFormed = true →
    (i.operation = .slo → Modifies i s asl (fun m t => withA (s.A ||| asl m) { t with C := bit7 m })) ∧
    (i.operation = .rla → Modifies i s (rol s.C) (fun m t => withA (s.A &&& rol s.C m) { t with C := bit7 m })) ∧
    (i.operation = .sre → Modifies i s lsr (fun m t => withA (s.A ^^^ lsr m) { t with C := bit0 m }))

/-- O35, derived, R287, 47_undocumented.md section 2, 92_eei_decisions.md D12, 92_eei_decisions.md D13.  Each has
exactly the seven forms of its rule. In every well-formed state each completes: the byte at the effective
address is read once and written back once, rotated right through C for RRA, less 1 for DCP, plus 1 for ISC;
then follows exactly the body of ADC with the rotated byte and the bit rotated out as carry, the compare of A
with the byte, or the body of SBC with the byte, decimal mode included; every other address reads as before, the
cost is fixed and nothing else changes. The decimal algorithm and V in decimal mode, which RRA and ISC take from
ADC and SBC, are the spec's own decisions D13 and D12 (R286, R288). -/
def Obligations.ModifyThenArithmetic : Prop :=
  HasForms .rra [form 0x67 .zp 5, form 0x77 .zpx 6, form 0x6F .abs 6, form 0x7F .abx 7, form 0x7B .aby 7,
    form 0x63 .izx 8, form 0x73 .izy 8] ∧
  HasForms .dcp [form 0xC7 .zp 5, form 0xD7 .zpx 6, form 0xCF .abs 6, form 0xDF .abx 7, form 0xDB .aby 7,
    form 0xC3 .izx 8, form 0xD3 .izy 8] ∧
  HasForms .isc [form 0xE7 .zp 5, form 0xF7 .zpx 6, form 0xEF .abs 6, form 0xFF .abx 7, form 0xFB .aby 7,
    form 0xE3 .izx 8, form 0xF3 .izy 8] ∧
  ∀ (i : Instr) (s : State), s.wellFormed = true →
    (i.operation = .rra →
      Modifies i s (ror s.C) (fun m t => afterAdd (ror s.C m) { t with C := bit0 m })) ∧
    (i.operation = .dcp →
      Modifies i s (fun m => low (m.toNat + 255)) (fun m => afterCompare s.A (low (m.toNat + 255)))) ∧
    (i.operation = .isc →
      Modifies i s (fun m => low (m.toNat + 1)) (fun m => afterSubtract (low (m.toNat + 1))))

/-- O36, derived, 47_undocumented.md section 3, 92_eei_decisions.md D14, 92_eei_decisions.md D16.  Each is immediate
only, 2 cycles, with the opcodes of its rule, and completes in every state. ANC is AND with C a copy of N; ALR
is AND then a shift right of A; ARR is AND then a rotate right with C bit 6 of the result and V bit 6 exclusive-
or bit 5, whatever D; XAA sets A to X AND m; AXS sets X to (A AND X) - m modulo 256 with the flags of the
compare of A AND X with m. Nothing else changes but the cost. The details of ANC, ALR, ARR and AXS are the
spec's own decision D16, and those of XAA D14 (R289 to R293). -/
def Obligations.ImmediateCombinations : Prop :=
  HasForms .anc [form 0x0B .imm 2, form 0x2B .imm 2] ∧
  HasForms .alr [form 0x4B .imm 2] ∧
  HasForms .arr [form 0x6B .imm 2] ∧
  HasForms .xaa [form 0x8B .imm 2] ∧
  HasForms .axs [form 0xCB .imm 2] ∧
  ∀ (i : Instr) (s : State),
    (i.operation = .anc → Reads i s (fun m t => { withA (s.A &&& m) t with C := bit7 (s.A &&& m) })) ∧
    (i.operation = .alr → Reads i s (fun m t => withA (lsr (s.A &&& m)) { t with C := bit0 (s.A &&& m) })) ∧
    (i.operation = .arr → Reads i s (fun m t => { withA (ror s.C (s.A &&& m)) t with
      C := decide ((ror s.C (s.A &&& m)).toNat / 64 % 2 = 1)
      V := decide ((ror s.C (s.A &&& m)).toNat / 64 % 2 ≠ (ror s.C (s.A &&& m)).toNat / 32 % 2) })) ∧
    (i.operation = .xaa → Reads i s (fun m => withA (s.X &&& m))) ∧
    (i.operation = .axs → Reads i s (fun m t =>
      { afterCompare (s.A &&& s.X) m t with X := low ((s.A &&& s.X).toNat + 256 - m.toNat) }))

/-- O37, derived, R277, 47_undocumented.md section 5, 92_eei_decisions.md D3.  NOP has the documented opcode 0xEA
and exactly the 27 undocumented ones of R296. Each completes in every state: in a mode with an address it makes
the operand read and discards the value, in the absolute,X forms a page cross costs 1 more, and no register,
flag or memory byte changes. That these opcodes are executed is the spec's own decision D3 (R296). -/
def Obligations.UndocumentedNops : Prop :=
  HasForms .nop [form 0xEA .imp 2, form 0x1A .imp 2, form 0x3A .imp 2, form 0x5A .imp 2, form 0x7A .imp 2,
    form 0xDA .imp 2, form 0xFA .imp 2, form 0x80 .imm 2, form 0x82 .imm 2, form 0x89 .imm 2, form 0xC2 .imm 2,
    form 0xE2 .imm 2, form 0x04 .zp 3, form 0x44 .zp 3, form 0x64 .zp 3, form 0x14 .zpx 4, form 0x34 .zpx 4,
    form 0x54 .zpx 4, form 0x74 .zpx 4, form 0xD4 .zpx 4, form 0xF4 .zpx 4, form 0x0C .abs 4,
    formPlus 0x1C .abx 4, formPlus 0x3C .abx 4, formPlus 0x5C .abx 4, formPlus 0x7C .abx 4,
    formPlus 0xDC .abx 4, formPlus 0xFC .abx 4] ∧
  ∀ (i : Instr) (s : State), i.operation = .nop →
    exec i s = .next (ended (cost i s) (operandReads i.operand s) s)

/-- O38, derived, R27, R324, 47_undocumented.md section 6, 92_eei_decisions.md D2, 92_eei_decisions.md D9.  The halt
opcodes are the twelve of R298 and the five of R299, one byte each with no operand. Executing one takes the
state after its fetch to the state with PC back at the opcode, KIL_CYCLES charged and status halted, and changes
nothing else. With no NMI pending, a step from a state whose PC addresses a halt opcode makes one read, leaves
every register, flag and byte of memory and PC as they were, charges KIL_CYCLES and reports halted; with the
default provider, so do k + 1 steps, which charge k + 1 times KIL_CYCLES. That the five opcodes of R299 halt is
the spec's own decision D2, and the cost of a halt D9; the status field is the model's record of what Step
returns (log entry 4). -/
def Obligations.HaltOpcodesStayInPlace : Prop :=
  (∀ op : Byte, (dispatchEntry op).operation = .kil ↔ op ∈ haltOpcodes) ∧
  (∀ i : Instr, i.operation = .kil → i.length = 1 ∧ i.operand = .halt) ∧
  (∀ (i : Instr) (s : State), i.operation = .kil →
    exec i s = .next { s with
      PC := BitVec.ofNat 16 (s.PC.toNat + 65535)
      cycles := s.cfg.killCycles, totalCycles := s.totalCycles + s.cfg.killCycles, status := .halted }) ∧
  (∀ s : State, s.nmiEdge = false → s.peek s.PC ∈ haltOpcodes →
    step s = .next { accessed [.read s.PC] { s with bus := [] } with
      opcode := s.peek s.PC, cycles := s.cfg.killCycles, status := .halted
      totalCycles := s.totalCycles + s.cfg.killCycles }) ∧
  (∀ (s : State) (k : Nat), s.cfg.provider = .default → s.nmiEdge = false → s.peek s.PC ∈ haltOpcodes →
    core.run (k + 1) s = .next { s with
      opcode := s.peek s.PC, cycles := s.cfg.killCycles, status := .halted, bus := [.read s.PC]
      totalCycles := s.totalCycles + (k + 1) * s.cfg.killCycles })

/-- O39, derived, 60_exceptions.md section 3, 92_eei_decisions.md D11, 92_eei_decisions.md D17, 92_eei_decisions.md
D22.  BRK is opcode 0x00, implied, 7 cycles. In every well-formed state, whatever I, it completes: with PC at
the byte after the opcode, PC + 1 is pushed, high byte first, then the status byte with bits 5 and 4 set and the
old I; S goes down by 3 modulo 256, I becomes 1, and PC is the little-endian word at 0xFFFE. The signature byte
is not read, B, D and the other flags keep their values, every address outside the three slots reads as before,
and nothing else changes. That B and D keep their values is the spec's own decision D11, that the signature byte
is not read D17, and that I does not mask BRK D22 (R353, R354). -/
def Obligations.BreakEntersHandler : Prop :=
  HasForms .brk [form 0x00 .imp 7] ∧
  ∀ (s : State) (ret : Nat), s.wellFormed = true → ret = (s.PC.toNat + 1) % 65536 →
    ∃ t ws, ws = [(stackAddr s.S, low (ret / 256)), (stackAddr (s.S - 1), low ret),
        (stackAddr (s.S - 2), statusByte true s)] ∧
      exec .brk s = .next t ∧
      t = { ended 7 (busWrites ws ++ [.read 0xFFFE, .read 0xFFFF]) s with
            S := s.S - 3, I := true
            PC := word (readAfter s (busWrites ws ++ [.read 0xFFFE]) 0xFFFF) (readAfter s (busWrites ws) 0xFFFE) } ∧
      Stores s t ws ∧
      (s.cfg.provider = .default → t.PC = word (s.peek 0xFFFF) (s.peek 0xFFFE))

/-- O40, stated, R360.  RTI is opcode 0x40, implied, 6 cycles, and completes in every state: the seven flags come
from the bits of the byte in the first slot above S, bit 5 discarded, PC is the word in the next two slots, low
byte first, with nothing added, S goes up by 3 modulo 256, the three reads are in this order, and nothing else
changes. -/
def Obligations.ReturnFromInterrupt : Prop :=
  HasForms .rti [form 0x40 .imp 6] ∧
  ∀ (s : State) (slot1 slot2 slot3 : Addr),
    slot1 = stackAddr (s.S + 1) → slot2 = stackAddr (s.S + 2) → slot3 = stackAddr (s.S + 3) →
    Accesses .rti s 6 [.read slot1, .read slot2, .read slot3] (fun t => withStatus (s.peek slot1) { t with
      S := s.S + 3
      PC := word (readAfter s [.read slot1, .read slot2] slot3) (readAfter s [.read slot1] slot2) })

/-- O41, derived, 60_exceptions.md section 4, R45, 92_eei_decisions.md D10, 92_eei_decisions.md D11.  In every well-
formed state with the latch set, whatever I and whatever stands at PC, a step clears the latch, pushes PC, high
byte first, and the status byte with bit 5 set and bit 4 clear, lowers S by 3 modulo 256, sets I, loads PC from
the little-endian word at 0xFFFA, charges 7 cycles and reports nmi. No opcode is fetched, opcode, B, D and the
other flags keep their values, every address outside the three slots reads as before. That the step does nothing
after the service is the spec's own decision D10, and that B and D keep their values D11 (R321, R357). -/
def Obligations.NmiServicePreemptsTheStep : Prop :=
  ∀ s : State, s.wellFormed = true → s.nmiEdge = true →
    ∃ t ws, ws = [(stackAddr s.S, low (s.PC.toNat / 256)), (stackAddr (s.S - 1), low s.PC.toNat),
        (stackAddr (s.S - 2), statusByte false s)] ∧
      step s = .next t ∧
      t = { accessed (busWrites ws ++ [.read 0xFFFA, .read 0xFFFB]) { s with bus := [] } with
            nmiEdge := false, S := s.S - 3, I := true
            PC := word (readAfter s (busWrites ws ++ [.read 0xFFFA]) 0xFFFB) (readAfter s (busWrites ws) 0xFFFA)
            cycles := 7, totalCycles := s.totalCycles + 7, status := .nmi } ∧
      Stores s t ws ∧
      (s.cfg.provider = .default → t.PC = word (s.peek 0xFFFB) (s.peek 0xFFFA))

/-- O42, derived, R353, R357, R360, R29, R30, 92_eei_decisions.md D4.  Take a well-formed state with the default
provider and the stack page backed, the state after the step that services its NMI or after a BRK, and any later
state with the default provider whose S is the one the entry left and whose three stack slots of the entry read
as the entry left them. RTI there completes with S, C, Z, I, D, V and N as before the entry; after an NMI, PC is
the address of the preempted instruction and B is 0; after a BRK, PC is the address after the signature byte and
B is 1. Where the slots lie, and the order of access and count, are the spec's own decision D4, which R29 and
R30 mark. -/
def Obligations.InterruptReturnRestoresContext : Prop :=
  ∀ s t u : State, s.wellFormed = true → StackBacked s → u.cfg.provider = .default → u.S = t.S →
    u.peek (stackAddr s.S) = t.peek (stackAddr s.S) →
    u.peek (stackAddr (s.S - 1)) = t.peek (stackAddr (s.S - 1)) →
    u.peek (stackAddr (s.S - 2)) = t.peek (stackAddr (s.S - 2)) →
    (s.nmiEdge = true → step s = .next t →
      ∃ v, exec .rti u = .next v ∧ SameContext s v ∧ v.PC = s.PC ∧ v.B = false) ∧
    (exec .brk s = .next t →
      ∃ v, exec .rti u = .next v ∧ SameContext s v ∧ v.PC = s.PC + 1 ∧ v.B = true)

/-- O43, derived, R356, 60_exceptions.md section 4, 92_eei_decisions.md D31.  TriggerNMI sets the latch and changes
nothing else, and doing it twice is doing it once. After every step the latch is clear, so a second step without
a second trigger does not service an NMI again: it runs the next instruction, and reports nmi no more. A step
during which the host triggers does what the step alone does, and leaves the latch set, so that the following
step services the request. That a trigger concurrent with a step is ordered after it is the spec's own decision
D31 (R358, R359). -/
def Obligations.NmiIsServicedOnce : Prop :=
  ∀ s : State,
    triggerNmi s = { s with nmiEdge := true } ∧ triggerNmi (triggerNmi s) = triggerNmi s ∧
    ∃ t, step s = .next t ∧ t.nmiEdge = false ∧ (t.status = .nmi ↔ s.nmiEdge = true) ∧
      (∃ u, step t = .next u ∧ u.status ≠ .nmi) ∧
      stepTriggered s = .next { t with nmiEdge := true } ∧
      ∃ w, step { t with nmiEdge := true } = .next w ∧ w.status = .nmi ∧ w.nmiEdge = false

/-- O44, derived, 60_exceptions.md section 2, 92_eei_decisions.md D6, 92_eei_decisions.md D7, 92_eei_decisions.md
D8.  Reset zeroes A, X, Y and the flags, sets I, sets S to RESET_S, loads PC from the little-endian word at
0xFFFC with exactly two reads and no write, charges 7 cycles, clears the NMI latch only if RESET_CLEARS_NMI, and
leaves opcode, memory and the parameters as they were. TriggerNMI makes no bus access. (That the model's record
of the last step's status is left alone is the model's choice, log entry 4.) What Reset does with S, the
counters, opcode and the latch are the spec's own decisions D6, D7 and D8 (R350, R76). -/
def Obligations.ResetCommandSetsState : Prop :=
  ∀ s : State,
    resetCommand s = { accessed [.read 0xFFFC, .read 0xFFFD] { s with bus := [] } with
      A := 0, X := 0, Y := 0
      C := false, Z := false, D := false, B := false, V := false, N := false, I := true
      S := s.cfg.resetS
      PC := word (readAfter s [.read 0xFFFC] 0xFFFD) (s.peek 0xFFFC)
      cycles := 7
      totalCycles := s.totalCycles + 7
      nmiEdge := if s.cfg.resetClearsNmi then false else s.nmiEdge } ∧
    (triggerNmi s).bus = s.bus

/-- O45, derived, R47, R48, 92_eei_decisions.md D6, 92_eei_decisions.md D7, 92_eei_decisions.md D23.  At
construction A, X, Y, PC, the flags, opcode, cycles, totalCycles and the latch are 0 and S is 0xFF, and the
status byte reads 0x20. The model's reset state is what Reset leaves of the state at construction, and its
status byte reads 0x24. That no byte of memory is listed, so that the reset vector reads as 0x0000, is the
model's choice (log entries 1 and 2), and so are the status and the bus record of a machine that has made no
step (log entries 4 and 5). That opcode, cycles, totalCycles and the latch are 0 at construction is the spec's
own decision D23, which R47 marks; S after Reset is D6, and that Reset adds 7 to totalCycles and keeps opcode
D7, which R48 marks. -/
def Obligations.ConstructionAndResetStates : Prop :=
  (State.construction.A = 0 ∧ State.construction.X = 0 ∧ State.construction.Y = 0 ∧
    State.construction.S = 0xFF ∧ State.construction.PC = 0 ∧ packStatus State.construction = 0x20 ∧
    State.construction.B = false ∧ State.construction.opcode = 0 ∧ State.construction.cycles = 0 ∧
    State.construction.totalCycles = 0 ∧ State.construction.nmiEdge = false) ∧
  State.reset = resetCommand State.construction ∧ packStatus State.reset = 0x24 ∧
  State.reset.S = 0xFF ∧ State.reset.cycles = 7 ∧ State.reset.totalCycles = 7

/-- O46, derived, R320, R322, R323, R325, R25.  With no NMI pending, when the three bytes at PC, as reads in order
give them, decode to an instruction i, a step is exec of i at the state after the fetch: PC moved past the bytes
of i, modulo 65536, opcode holding the first byte, and one read in order for each byte of i. -/
def Obligations.StepRunsDecodedInstruction : Prop :=
  ∀ (s : State) (i : Instr) (rest : List Byte), s.nmiEdge = false → decode (nextBytes s) = .instr i rest →
    step s = exec i (fetched i s)

/-- O47, derived, R352, R323, R370.  Every instruction, in every state, answers a next state; so does every step,
and every number of steps from every state. -/
def Obligations.EveryStepAnswersANextState : Prop :=
  (∀ (i : Instr) (s : State), ∃ t, exec i s = .next t) ∧ (∀ s : State, ∃ t, step s = .next t) ∧
  ∀ (k : Nat) (s : State), SafeRun k s

/-- O48, derived, R46, R63, R7.  From every well-formed state, a step gives a well-formed state: memory stays in its
canonical form and inside the backed region, the parameters stay in their ranges and do not change, and
totalCycles does not go down. -/
def Obligations.StepKeepsStateWellFormed : Prop :=
  ∀ s t : State, s.wellFormed = true → step s = .next t →
    t.wellFormed = true ∧ t.cfg = s.cfg ∧ s.totalCycles ≤ t.totalCycles

/-- O49, derived, R48, R63.  The state after reset and the state at construction meet the invariant that every step
keeps. -/
def Obligations.ResetStateIsWellFormed : Prop :=
  State.reset.wellFormed = true ∧ State.construction.wellFormed = true

/-- O50, derived, R49, R23, R46, R8, 92_eei_decisions.md D7, 92_eei_decisions.md D28.  From every well-formed state
every command of the host, Reset, TriggerNMI, writes to registers, flags, the status byte and memory, a change
of an injected provider's state, and the toggle INDIRECT_BUG, gives a well-formed state in which opcode is
unchanged and totalCycles has not gone down; a register written holds the value modulo its width. Which commands
the host has, and that its write of memory goes through the provider and so stays inside the backed region, is
the model's own choice (log entry 13, DESIGN CHOICE; for an injected provider's state, log entry 18); that Reset
keeps opcode and does not lower totalCycles is the spec's own decision D7, and that the host writes neither D28. -/
def Obligations.HostCommandsKeepStateWellFormed : Prop :=
  ∀ (c : HostCommand) (s : State), s.wellFormed = true →
    (hostCommand c s).wellFormed = true ∧ (hostCommand c s).opcode = s.opcode ∧
    s.totalCycles ≤ (hostCommand c s).totalCycles ∧
    (∀ v, c = .writeA v → (hostCommand c s).A.toNat = v % 256) ∧
    (∀ v, c = .writeX v → (hostCommand c s).X.toNat = v % 256) ∧
    (∀ v, c = .writeY v → (hostCommand c s).Y.toNat = v % 256) ∧
    (∀ v, c = .writeS v → (hostCommand c s).S.toNat = v % 256) ∧
    (∀ v, c = .writePC v → (hostCommand c s).PC.toNat = v % 65536)

/-- O51, derived, R331, R334, 92_eei_decisions.md D9, 92_eei_decisions.md D27.  A step that services an NMI costs 7
and reports nmi. Any other step costs what R331 gives the instruction that the bytes at PC decode to, KIL_CYCLES
for a halt, 2, 3 or 4 for a branch, the base cost plus the page-cross cycle for an eligible opcode, the base
cost for the rest, and reports halted for a halt and normal otherwise. The cost is stored in cycles and added to
totalCycles; it is at most 8 unless it is KIL_CYCLES, and at least 1 in a well-formed state. The cost of a halt
and the status channel are the spec's own decisions D9 and D27 (R337). -/
def Obligations.StepCostIsCharged : Prop :=
  ∀ s : State, ∃ t, step s = .next t ∧ t.totalCycles = s.totalCycles + t.cycles ∧
    (s.nmiEdge = true → t.cycles = 7 ∧ t.status = .nmi) ∧
    (s.nmiEdge = false → ∃ i rest, decode (nextBytes s) = .instr i rest ∧
      t.cycles = instructionCost i (fetched i s) ∧
      t.status = if i.operation = .kil then .halted else .normal) ∧
    (t.cycles ≤ 8 ∨ t.cycles = s.cfg.killCycles) ∧ (s.wellFormed = true → 1 ≤ t.cycles)

/-- O52, derived, 48_step_dispatch_cycles.md section 2, R336.  In a well-formed state with KIL_CYCLES at most 8: a
target of 0 or less makes no step and returns 0; a greater target returns a count e with target <= e < target +
8, after some number of steps, each before the last leaving the count short of the target, and totalCycles has
grown by exactly e. Halted steps and NMI services count like any step. The bound on the overshoot is the spec's
own derivation from R331. -/
def Obligations.RunCyclesReachesItsTarget : Prop :=
  ∀ (s : State) (target : Int), s.wellFormed = true → s.cfg.killCycles ≤ 8 →
    (target ≤ 0 → runCycles target s = .next (0, s)) ∧
    (0 < target → ∃ (e : Nat) (u : State) (k : Nat), runCycles target s = .next (e, u) ∧
      core.run (k + 1) s = .next u ∧ u.totalCycles = s.totalCycles + e ∧ target ≤ e ∧ (e : Int) < target + 8 ∧
      ∃ p : State, core.run k s = .next p ∧ (p.totalCycles : Int) < s.totalCycles + target)

/-- O53, derived, R43, R371.  Two states that differ only in opcode, cycles, totalCycles and the model's records of
the last step make the same step: the states after it differ in no more than that, and the cost, the status and
the bus accesses of the step are the same. The same holds of Reset. -/
def Obligations.ObserversDecideNothing : Prop :=
  ∀ s t : State, forgetObservers s = forgetObservers t →
    (∀ s' t', step s = .next s' → step t = .next t' →
      forgetObservers s' = forgetObservers t' ∧ s'.cycles = t'.cycles ∧ s'.status = t'.status ∧ s'.bus = t'.bus) ∧
    forgetObservers (resetCommand s) = forgetObservers (resetCommand t)

/-- O54, derived, R34, R362.  Two states that differ only in I make the same step but for I itself and for the bit
of I in a pushed status byte: registers, PC, the other flags, the latch, cost and status agree, and unless the
step services an NMI or runs PHP or BRK memory, the bus accesses and the provider agree too. (With an injected
provider, which sees the pushed byte, the first half is not said of a BRK and of the service of an NMI, whose
vector is read after it.) -/
def Obligations.InterruptDisableGatesNothing : Prop :=
  ∀ (s s' t' : State) (b : Bool), step s = .next s' → step { s with I := b } = .next t' →
    ((s.cfg.provider = .default ∨ (s.nmiEdge = false ∧ (dispatchEntry (s.peek s.PC)).operation ≠ .brk)) →
      { t' with I := s'.I, mem := s'.mem, providerState := s'.providerState, bus := s'.bus } = s') ∧
    (s.nmiEdge = false → (dispatchEntry (s.peek s.PC)).operation ≠ .php →
      (dispatchEntry (s.peek s.PC)).operation ≠ .brk → { t' with I := s'.I } = s')

/-- O55, derived, R35, R191, 92_eei_decisions.md D16.  Two states that differ only in D make the same step but for D
itself, unless the step runs ADC, SBC, RRA or ISC: registers, PC, the other flags, the latch, cost and status
agree, and unless the step services an NMI or runs PHP or BRK, which push D, memory, the bus accesses and the
provider agree too. (With an injected provider, which sees the pushed byte, the first half is not said of a BRK
and of the service of an NMI, whose vector is read after it.) Which operations read D is the spec's own decision
D16, which R35 marks, with R191 for the additions. -/
def Obligations.DecimalFlagReadByAdditionsOnly : Prop :=
  ∀ (s s' t' : State) (d : Bool), step s = .next s' → step { s with D := d } = .next t' →
    (s.nmiEdge = true ∨
      (dispatchEntry (s.peek s.PC)).operation ∉ ([.adc, .sbc, .rra, .isc] : List Operation)) →
    ((s.cfg.provider = .default ∨ (s.nmiEdge = false ∧ (dispatchEntry (s.peek s.PC)).operation ≠ .brk)) →
      { t' with D := s'.D, mem := s'.mem, providerState := s'.providerState, bus := s'.bus } = s') ∧
    (s.nmiEdge = false → (dispatchEntry (s.peek s.PC)).operation ≠ .php →
      (dispatchEntry (s.peek s.PC)).operation ≠ .brk → { t' with D := s'.D } = s')

/-- O56, derived, R60, R62, R63, R65, R70.  After a step the memory, and the state of an injected provider, are what
the accesses on the step's bus record, in their order, leave of those before the step; from a well-formed state
with the default provider every address reads as it does when the writes on the record are applied in their
order. -/
def Obligations.MemoryChangesOnlyByBusWrites : Prop :=
  ∀ s t : State, step s = .next t →
    t.mem = (s.after t.bus).mem ∧ t.providerState = (s.after t.bus).providerState ∧
    (s.wellFormed = true → Stores s t (writesOf t.bus))

/-- O57, derived, R21, R22, R43, 92_eei_decisions.md D14, 92_eei_decisions.md D16.  When an instruction answers a
next state: A has changed only if it is one that R21 lists as writing A, shifts and rotates in accumulator mode
included; X only for LDX, LAX, TAX, TSX, INX, DEX, AXS; Y only for LDY, TAY, INY, DEY; S only for the pushes,
the pulls and TXS; PC, beyond the fetch, only for jumps, branches, returns, BRK and the halts. No instruction
changes opcode, the latch or the parameters. The lists of R21 are the spec's own derivation from the instruction
rules (R21 marks them so), and behind XAA, ANC, ALR, ARR and AXS stand its decisions D14 and D16. -/
def Obligations.RegistersAreWrittenByTheirInstructionsOnly : Prop :=
  ∀ (i : Instr) (s t : State), exec i s = .next t →
    (t.A ≠ s.A → i.operand = .acc ∨ i.operation ∈ ([.lda, .lax, .txa, .tya, .pla, .adc, .sbc, .and, .ora, .eor,
      .slo, .rla, .sre, .rra, .isc, .anc, .alr, .arr, .xaa] : List Operation)) ∧
    (t.X ≠ s.X → i.operation ∈ ([.ldx, .lax, .tax, .tsx, .inx, .dex, .axs] : List Operation)) ∧
    (t.Y ≠ s.Y → i.operation ∈ ([.ldy, .tay, .iny, .dey] : List Operation)) ∧
    (t.S ≠ s.S → i.operation ∈ ([.pha, .php, .pla, .plp, .jsr, .rts, .brk, .rti, .txs] : List Operation)) ∧
    (t.PC ≠ s.PC → i.operation ∈ ([.jmp, .jsr, .rts, .brk, .rti, .bpl, .bmi, .bvc, .bvs, .bcc, .bcs, .bne, .beq,
      .kil] : List Operation)) ∧
    t.opcode = s.opcode ∧ t.nmiEdge = s.nmiEdge ∧ t.cfg = s.cfg

/-- O58, derived, R32, R33, R34, R35, R36, R39, R40, R41, 92_eei_decisions.md D11.  When an instruction answers a
next state, a flag has changed only if the instruction is one that the flag's rule lists: C by additions,
subtractions, compares, shifts and rotates, CLC, SEC and the combinations; Z and N by the callers of UpdateZN
and by BIT; I by CLI, SEI and BRK; D by CLD and SED; V by additions and subtractions, BIT, ARR and CLV; and each
by PLP and RTI, which are the only ones that write B. That BRK writes neither D nor B is the spec's own decision
D11, which R35 and R36 mark; the lists of R32 and the callers of R40 are its own derivation from the instruction
rules, as those rules mark. -/
def Obligations.FlagsAreWrittenByTheirInstructionsOnly : Prop :=
  ∀ (i : Instr) (s t : State), exec i s = .next t →
    (t.C ≠ s.C → i.operation ∈ ([.adc, .sbc, .cmp, .cpx, .cpy, .asl, .lsr, .rol, .ror, .clc, .sec, .plp, .rti,
      .slo, .rla, .sre, .rra, .dcp, .isc, .anc, .alr, .arr, .axs] : List Operation)) ∧
    (t.Z ≠ s.Z ∨ t.N ≠ s.N → i.operation ∈ ([.lda, .ldx, .ldy, .tax, .tay, .txa, .tya, .tsx, .pla, .adc, .sbc, .and, .ora, .eor,
      .inc, .dec, .inx, .iny, .dex, .dey, .asl, .lsr, .rol, .ror, .cmp, .cpx, .cpy, .lax, .slo, .rla, .sre, .rra,
      .dcp, .isc, .anc, .alr, .arr, .xaa, .axs, .bit, .plp, .rti] : List Operation)) ∧
    (t.I ≠ s.I → i.operation ∈ ([.sei, .cli, .plp, .rti, .brk] : List Operation)) ∧
    (t.D ≠ s.D → i.operation ∈ ([.sed, .cld, .plp, .rti] : List Operation)) ∧
    (t.B ≠ s.B → i.operation ∈ ([.plp, .rti] : List Operation)) ∧
    (t.V ≠ s.V → i.operation ∈ ([.adc, .sbc, .rra, .isc, .bit, .arr, .clv, .plp, .rti] : List Operation))

/-- O59, derived, R60, R62, R63, R65, 93_implementation_defined.md Part 1.  With an injected provider every bus read
answers the provider's byte and leaves the state the provider gives, every bus write leaves the state the
provider gives, and nothing else but the record of the bus changes; a step then answers a next state, does not
change the default provider's memory, and does not depend on it or on MEM_BASE, MEM_SIZE and FILL. With the
default provider a step neither changes nor reads the state an injected provider would have. That a provider's
state is a number and its behaviour two functions that nothing constrains is the model's own choice (log entry
18, DESIGN CHOICE). -/
def Obligations.InjectedProviderAnswersTheBus : Prop :=
  (∀ (s : State) (n : Nat), s.cfg.provider = .injected n →
    (∀ a, memRead a s = ((injectedRead n s.providerState a).1,
      { s with providerState := (injectedRead n s.providerState a).2, bus := s.bus ++ [.read a] })) ∧
    (∀ a v, memWrite a v s =
      { s with providerState := injectedWrite n s.providerState a v, bus := s.bus ++ [.write a v] }) ∧
    ∃ t, step s = .next t ∧ t.mem = s.mem ∧
      ∀ (m : Memory) (base size : Nat) (fill : Byte),
        step { s with mem := m, cfg := { s.cfg with memBase := base, memSize := size, fill := fill } } =
          .next { t with mem := m, cfg := { t.cfg with memBase := base, memSize := size, fill := fill } }) ∧
  (∀ s : State, s.cfg.provider = .default →
    ∃ t, step s = .next t ∧ t.providerState = s.providerState ∧
      ∀ p : Nat, step { s with providerState := p } = .next { t with providerState := p })
end

