-- ==== Sys2Proof/Laws/Cases.lean ====
section
/-! SUPPORT. The instructions of each operation: a case split on an instruction whose operation is known. -/

namespace Sys2Proof

/-- The instructions of each operation. -/
def Instr.OneOfItsForms (i : Instr) : Prop :=
  match i.operation with
  | .lda => (∃ v, i = .ldaImm v) ∨ (∃ v, i = .ldaZp v) ∨ (∃ v, i = .ldaZpx v) ∨ (∃ v, i = .ldaAbs v) ∨
    (∃ v, i = .ldaIzx v) ∨ (∃ v, i = .ldaIzy v) ∨ (∃ v, i = .ldaAbx v) ∨ (∃ v, i = .ldaAby v)
  | .ldx => (∃ v, i = .ldxImm v) ∨ (∃ v, i = .ldxZp v) ∨ (∃ v, i = .ldxZpy v) ∨ (∃ v, i = .ldxAbs v) ∨
    (∃ v, i = .ldxAby v)
  | .ldy => (∃ v, i = .ldyImm v) ∨ (∃ v, i = .ldyZp v) ∨ (∃ v, i = .ldyZpx v) ∨ (∃ v, i = .ldyAbs v) ∨
    (∃ v, i = .ldyAbx v)
  | .lax => (∃ v, i = .laxZp v) ∨ (∃ v, i = .laxZpy v) ∨ (∃ v, i = .laxAbs v) ∨ (∃ v, i = .laxIzx v) ∨
    (∃ v, i = .laxIzy v) ∨ (∃ v, i = .laxAby v)
  | .sta => (∃ v, i = .staZp v) ∨ (∃ v, i = .staZpx v) ∨ (∃ v, i = .staAbs v) ∨ (∃ v, i = .staIzx v) ∨
    (∃ v, i = .staIzy v) ∨ (∃ v, i = .staAbx v) ∨ (∃ v, i = .staAby v)
  | .stx => (∃ v, i = .stxZp v) ∨ (∃ v, i = .stxZpy v) ∨ (∃ v, i = .stxAbs v)
  | .sty => (∃ v, i = .styZp v) ∨ (∃ v, i = .styZpx v) ∨ (∃ v, i = .styAbs v)
  | .sax => (∃ v, i = .saxZp v) ∨ (∃ v, i = .saxZpy v) ∨ (∃ v, i = .saxAbs v) ∨ (∃ v, i = .saxIzx v)
  | .shx => (∃ v, i = .shxAby v)
  | .shy => (∃ v, i = .shyAbx v)
  | .tax => i = .tax
  | .tay => i = .tay
  | .txa => i = .txa
  | .tya => i = .tya
  | .tsx => i = .tsx
  | .txs => i = .txs
  | .pha => i = .pha
  | .php => i = .php
  | .pla => i = .pla
  | .plp => i = .plp
  | .adc => (∃ v, i = .adcImm v) ∨ (∃ v, i = .adcZp v) ∨ (∃ v, i = .adcZpx v) ∨ (∃ v, i = .adcAbs v) ∨
    (∃ v, i = .adcIzx v) ∨ (∃ v, i = .adcIzy v) ∨ (∃ v, i = .adcAbx v) ∨ (∃ v, i = .adcAby v)
  | .rra => (∃ v, i = .rraZp v) ∨ (∃ v, i = .rraZpx v) ∨ (∃ v, i = .rraAbs v) ∨ (∃ v, i = .rraIzx v) ∨
    (∃ v, i = .rraIzy v) ∨ (∃ v, i = .rraAbx v) ∨ (∃ v, i = .rraAby v)
  | .sbc => (∃ v, i = .sbcImm v) ∨ (∃ v, i = .sbcZp v) ∨ (∃ v, i = .sbcZpx v) ∨ (∃ v, i = .sbcAbs v) ∨
    (∃ v, i = .sbcIzx v) ∨ (∃ v, i = .sbcIzy v) ∨ (∃ v, i = .sbcAbx v) ∨ (∃ v, i = .sbcAby v) ∨
    (∃ v, i = .sbcImmEB v)
  | .isc => (∃ v, i = .iscZp v) ∨ (∃ v, i = .iscZpx v) ∨ (∃ v, i = .iscAbs v) ∨ (∃ v, i = .iscIzx v) ∨
    (∃ v, i = .iscIzy v) ∨ (∃ v, i = .iscAbx v) ∨ (∃ v, i = .iscAby v)
  | .cmp => (∃ v, i = .cmpImm v) ∨ (∃ v, i = .cmpZp v) ∨ (∃ v, i = .cmpZpx v) ∨ (∃ v, i = .cmpAbs v) ∨
    (∃ v, i = .cmpIzx v) ∨ (∃ v, i = .cmpIzy v) ∨ (∃ v, i = .cmpAbx v) ∨ (∃ v, i = .cmpAby v)
  | .cpx => (∃ v, i = .cpxImm v) ∨ (∃ v, i = .cpxZp v) ∨ (∃ v, i = .cpxAbs v)
  | .cpy => (∃ v, i = .cpyImm v) ∨ (∃ v, i = .cpyZp v) ∨ (∃ v, i = .cpyAbs v)
  | .dcp => (∃ v, i = .dcpZp v) ∨ (∃ v, i = .dcpZpx v) ∨ (∃ v, i = .dcpAbs v) ∨ (∃ v, i = .dcpIzx v) ∨
    (∃ v, i = .dcpIzy v) ∨ (∃ v, i = .dcpAbx v) ∨ (∃ v, i = .dcpAby v)
  | .axs => (∃ v, i = .axsImm v)
  | .and => (∃ v, i = .andImm v) ∨ (∃ v, i = .andZp v) ∨ (∃ v, i = .andZpx v) ∨ (∃ v, i = .andAbs v) ∨
    (∃ v, i = .andIzx v) ∨ (∃ v, i = .andIzy v) ∨ (∃ v, i = .andAbx v) ∨ (∃ v, i = .andAby v)
  | .ora => (∃ v, i = .oraImm v) ∨ (∃ v, i = .oraZp v) ∨ (∃ v, i = .oraZpx v) ∨ (∃ v, i = .oraAbs v) ∨
    (∃ v, i = .oraIzx v) ∨ (∃ v, i = .oraIzy v) ∨ (∃ v, i = .oraAbx v) ∨ (∃ v, i = .oraAby v)
  | .eor => (∃ v, i = .eorImm v) ∨ (∃ v, i = .eorZp v) ∨ (∃ v, i = .eorZpx v) ∨ (∃ v, i = .eorAbs v) ∨
    (∃ v, i = .eorIzx v) ∨ (∃ v, i = .eorIzy v) ∨ (∃ v, i = .eorAbx v) ∨ (∃ v, i = .eorAby v)
  | .rla => (∃ v, i = .rlaZp v) ∨ (∃ v, i = .rlaZpx v) ∨ (∃ v, i = .rlaAbs v) ∨ (∃ v, i = .rlaIzx v) ∨
    (∃ v, i = .rlaIzy v) ∨ (∃ v, i = .rlaAbx v) ∨ (∃ v, i = .rlaAby v)
  | .slo => (∃ v, i = .sloZp v) ∨ (∃ v, i = .sloZpx v) ∨ (∃ v, i = .sloAbs v) ∨ (∃ v, i = .sloIzx v) ∨
    (∃ v, i = .sloIzy v) ∨ (∃ v, i = .sloAbx v) ∨ (∃ v, i = .sloAby v)
  | .sre => (∃ v, i = .sreZp v) ∨ (∃ v, i = .sreZpx v) ∨ (∃ v, i = .sreAbs v) ∨ (∃ v, i = .sreIzx v) ∨
    (∃ v, i = .sreIzy v) ∨ (∃ v, i = .sreAbx v) ∨ (∃ v, i = .sreAby v)
  | .anc => (∃ v, i = .ancImm0B v) ∨ (∃ v, i = .ancImm2B v)
  | .alr => (∃ v, i = .alrImm v)
  | .arr => (∃ v, i = .arrImm v)
  | .xaa => (∃ v, i = .xaaImm v)
  | .bit => (∃ v, i = .bitZp v) ∨ (∃ v, i = .bitAbs v)
  | .inc => (∃ v, i = .incZp v) ∨ (∃ v, i = .incZpx v) ∨ (∃ v, i = .incAbs v) ∨ (∃ v, i = .incAbx v)
  | .dec => (∃ v, i = .decZp v) ∨ (∃ v, i = .decZpx v) ∨ (∃ v, i = .decAbs v) ∨ (∃ v, i = .decAbx v)
  | .inx => i = .inx
  | .iny => i = .iny
  | .dex => i = .dex
  | .dey => i = .dey
  | .asl => i = .aslAcc ∨ (∃ v, i = .aslZp v) ∨ (∃ v, i = .aslZpx v) ∨ (∃ v, i = .aslAbs v) ∨
    (∃ v, i = .aslAbx v)
  | .lsr => i = .lsrAcc ∨ (∃ v, i = .lsrZp v) ∨ (∃ v, i = .lsrZpx v) ∨ (∃ v, i = .lsrAbs v) ∨
    (∃ v, i = .lsrAbx v)
  | .rol => i = .rolAcc ∨ (∃ v, i = .rolZp v) ∨ (∃ v, i = .rolZpx v) ∨ (∃ v, i = .rolAbs v) ∨
    (∃ v, i = .rolAbx v)
  | .ror => i = .rorAcc ∨ (∃ v, i = .rorZp v) ∨ (∃ v, i = .rorZpx v) ∨ (∃ v, i = .rorAbs v) ∨
    (∃ v, i = .rorAbx v)
  | .jmp => (∃ v, i = .jmpAbs v) ∨ (∃ v, i = .jmpInd v)
  | .jsr => (∃ v, i = .jsr v)
  | .rts => i = .rts
  | .bpl => (∃ v, i = .bpl v)
  | .bmi => (∃ v, i = .bmi v)
  | .bvc => (∃ v, i = .bvc v)
  | .bvs => (∃ v, i = .bvs v)
  | .bcc => (∃ v, i = .bcc v)
  | .bcs => (∃ v, i = .bcs v)
  | .bne => (∃ v, i = .bne v)
  | .beq => (∃ v, i = .beq v)
  | .brk => i = .brk
  | .rti => i = .rti
  | .clc => i = .clc
  | .sec => i = .sec
  | .cli => i = .cli
  | .sei => i = .sei
  | .cld => i = .cld
  | .sed => i = .sed
  | .clv => i = .clv
  | .nop => i = .nop ∨ i = .nopImp1A ∨ i = .nopImp3A ∨ i = .nopImp5A ∨ i = .nopImp7A ∨ i = .nopImpDA ∨
    i = .nopImpFA ∨ (∃ v, i = .nopImm80 v) ∨ (∃ v, i = .nopImm82 v) ∨ (∃ v, i = .nopImm89 v) ∨
    (∃ v, i = .nopImmC2 v) ∨ (∃ v, i = .nopImmE2 v) ∨ (∃ v, i = .nopZp04 v) ∨ (∃ v, i = .nopZp44 v) ∨
    (∃ v, i = .nopZp64 v) ∨ (∃ v, i = .nopZpx14 v) ∨ (∃ v, i = .nopZpx34 v) ∨ (∃ v, i = .nopZpx54 v) ∨
    (∃ v, i = .nopZpx74 v) ∨ (∃ v, i = .nopZpxD4 v) ∨ (∃ v, i = .nopZpxF4 v) ∨ (∃ v, i = .nopAbs0C v) ∨
    (∃ v, i = .nopAbx1C v) ∨ (∃ v, i = .nopAbx3C v) ∨ (∃ v, i = .nopAbx5C v) ∨ (∃ v, i = .nopAbx7C v) ∨
    (∃ v, i = .nopAbxDC v) ∨ (∃ v, i = .nopAbxFC v)
  | .kil => i = .kil02 ∨ i = .kil12 ∨ i = .kil22 ∨ i = .kil32 ∨ i = .kil42 ∨ i = .kil52 ∨ i = .kil62 ∨
    i = .kil72 ∨ i = .kil92 ∨ i = .kil93 ∨ i = .kil9B ∨ i = .kil9F ∨ i = .kilAB ∨ i = .kilB2 ∨ i = .kilBB ∨
    i = .kilD2 ∨ i = .kilF2

/-- Every instruction is one of the forms of its operation. -/
theorem Instr.oneOfItsForms : ∀ i : Instr, i.OneOfItsForms
  | .ldaImm _ => .inl ⟨_, rfl⟩
  | .ldaZp _ => .inr (.inl ⟨_, rfl⟩)
  | .ldaZpx _ => .inr (.inr (.inl ⟨_, rfl⟩))
  | .ldaAbs _ => .inr (.inr (.inr (.inl ⟨_, rfl⟩)))
  | .ldaIzx _ => .inr (.inr (.inr (.inr (.inl ⟨_, rfl⟩))))
  | .ldaIzy _ => .inr (.inr (.inr (.inr (.inr (.inl ⟨_, rfl⟩)))))
  | .ldaAbx _ => .inr (.inr (.inr (.inr (.inr (.inr (.inl ⟨_, rfl⟩))))))
  | .ldaAby _ => .inr (.inr (.inr (.inr (.inr (.inr (.inr ⟨_, rfl⟩))))))
  | .ldxImm _ => .inl ⟨_, rfl⟩
  | .ldxZp _ => .inr (.inl ⟨_, rfl⟩)
  | .ldxZpy _ => .inr (.inr (.inl ⟨_, rfl⟩))
  | .ldxAbs _ => .inr (.inr (.inr (.inl ⟨_, rfl⟩)))
  | .ldxAby _ => .inr (.inr (.inr (.inr ⟨_, rfl⟩)))
  | .ldyImm _ => .inl ⟨_, rfl⟩
  | .ldyZp _ => .inr (.inl ⟨_, rfl⟩)
  | .ldyZpx _ => .inr (.inr (.inl ⟨_, rfl⟩))
  | .ldyAbs _ => .inr (.inr (.inr (.inl ⟨_, rfl⟩)))
  | .ldyAbx _ => .inr (.inr (.inr (.inr ⟨_, rfl⟩)))
  | .laxZp _ => .inl ⟨_, rfl⟩
  | .laxZpy _ => .inr (.inl ⟨_, rfl⟩)
  | .laxAbs _ => .inr (.inr (.inl ⟨_, rfl⟩))
  | .laxIzx _ => .inr (.inr (.inr (.inl ⟨_, rfl⟩)))
  | .laxIzy _ => .inr (.inr (.inr (.inr (.inl ⟨_, rfl⟩))))
  | .laxAby _ => .inr (.inr (.inr (.inr (.inr ⟨_, rfl⟩))))
  | .staZp _ => .inl ⟨_, rfl⟩
  | .staZpx _ => .inr (.inl ⟨_, rfl⟩)
  | .staAbs _ => .inr (.inr (.inl ⟨_, rfl⟩))
  | .staIzx _ => .inr (.inr (.inr (.inl ⟨_, rfl⟩)))
  | .staIzy _ => .inr (.inr (.inr (.inr (.inl ⟨_, rfl⟩))))
  | .staAbx _ => .inr (.inr (.inr (.inr (.inr (.inl ⟨_, rfl⟩)))))
  | .staAby _ => .inr (.inr (.inr (.inr (.inr (.inr ⟨_, rfl⟩)))))
  | .stxZp _ => .inl ⟨_, rfl⟩
  | .stxZpy _ => .inr (.inl ⟨_, rfl⟩)
  | .stxAbs _ => .inr (.inr ⟨_, rfl⟩)
  | .styZp _ => .inl ⟨_, rfl⟩
  | .styZpx _ => .inr (.inl ⟨_, rfl⟩)
  | .styAbs _ => .inr (.inr ⟨_, rfl⟩)
  | .saxZp _ => .inl ⟨_, rfl⟩
  | .saxZpy _ => .inr (.inl ⟨_, rfl⟩)
  | .saxAbs _ => .inr (.inr (.inl ⟨_, rfl⟩))
  | .saxIzx _ => .inr (.inr (.inr ⟨_, rfl⟩))
  | .shxAby _ => ⟨_, rfl⟩
  | .shyAbx _ => ⟨_, rfl⟩
  | .tax => rfl
  | .tay => rfl
  | .txa => rfl
  | .tya => rfl
  | .tsx => rfl
  | .txs => rfl
  | .pha => rfl
  | .php => rfl
  | .pla => rfl
  | .plp => rfl
  | .adcImm _ => .inl ⟨_, rfl⟩
  | .adcZp _ => .inr (.inl ⟨_, rfl⟩)
  | .adcZpx _ => .inr (.inr (.inl ⟨_, rfl⟩))
  | .adcAbs _ => .inr (.inr (.inr (.inl ⟨_, rfl⟩)))
  | .adcIzx _ => .inr (.inr (.inr (.inr (.inl ⟨_, rfl⟩))))
  | .adcIzy _ => .inr (.inr (.inr (.inr (.inr (.inl ⟨_, rfl⟩)))))
  | .adcAbx _ => .inr (.inr (.inr (.inr (.inr (.inr (.inl ⟨_, rfl⟩))))))
  | .adcAby _ => .inr (.inr (.inr (.inr (.inr (.inr (.inr ⟨_, rfl⟩))))))
  | .rraZp _ => .inl ⟨_, rfl⟩
  | .rraZpx _ => .inr (.inl ⟨_, rfl⟩)
  | .rraAbs _ => .inr (.inr (.inl ⟨_, rfl⟩))
  | .rraIzx _ => .inr (.inr (.inr (.inl ⟨_, rfl⟩)))
  | .rraIzy _ => .inr (.inr (.inr (.inr (.inl ⟨_, rfl⟩))))
  | .rraAbx _ => .inr (.inr (.inr (.inr (.inr (.inl ⟨_, rfl⟩)))))
  | .rraAby _ => .inr (.inr (.inr (.inr (.inr (.inr ⟨_, rfl⟩)))))
  | .sbcImm _ => .inl ⟨_, rfl⟩
  | .sbcZp _ => .inr (.inl ⟨_, rfl⟩)
  | .sbcZpx _ => .inr (.inr (.inl ⟨_, rfl⟩))
  | .sbcAbs _ => .inr (.inr (.inr (.inl ⟨_, rfl⟩)))
  | .sbcIzx _ => .inr (.inr (.inr (.inr (.inl ⟨_, rfl⟩))))
  | .sbcIzy _ => .inr (.inr (.inr (.inr (.inr (.inl ⟨_, rfl⟩)))))
  | .sbcAbx _ => .inr (.inr (.inr (.inr (.inr (.inr (.inl ⟨_, rfl⟩))))))
  | .sbcAby _ => .inr (.inr (.inr (.inr (.inr (.inr (.inr (.inl ⟨_, rfl⟩)))))))
  | .sbcImmEB _ => .inr (.inr (.inr (.inr (.inr (.inr (.inr (.inr ⟨_, rfl⟩)))))))
  | .iscZp _ => .inl ⟨_, rfl⟩
  | .iscZpx _ => .inr (.inl ⟨_, rfl⟩)
  | .iscAbs _ => .inr (.inr (.inl ⟨_, rfl⟩))
  | .iscIzx _ => .inr (.inr (.inr (.inl ⟨_, rfl⟩)))
  | .iscIzy _ => .inr (.inr (.inr (.inr (.inl ⟨_, rfl⟩))))
  | .iscAbx _ => .inr (.inr (.inr (.inr (.inr (.inl ⟨_, rfl⟩)))))
  | .iscAby _ => .inr (.inr (.inr (.inr (.inr (.inr ⟨_, rfl⟩)))))
  | .cmpImm _ => .inl ⟨_, rfl⟩
  | .cmpZp _ => .inr (.inl ⟨_, rfl⟩)
  | .cmpZpx _ => .inr (.inr (.inl ⟨_, rfl⟩))
  | .cmpAbs _ => .inr (.inr (.inr (.inl ⟨_, rfl⟩)))
  | .cmpIzx _ => .inr (.inr (.inr (.inr (.inl ⟨_, rfl⟩))))
  | .cmpIzy _ => .inr (.inr (.inr (.inr (.inr (.inl ⟨_, rfl⟩)))))
  | .cmpAbx _ => .inr (.inr (.inr (.inr (.inr (.inr (.inl ⟨_, rfl⟩))))))
  | .cmpAby _ => .inr (.inr (.inr (.inr (.inr (.inr (.inr ⟨_, rfl⟩))))))
  | .cpxImm _ => .inl ⟨_, rfl⟩
  | .cpxZp _ => .inr (.inl ⟨_, rfl⟩)
  | .cpxAbs _ => .inr (.inr ⟨_, rfl⟩)
  | .cpyImm _ => .inl ⟨_, rfl⟩
  | .cpyZp _ => .inr (.inl ⟨_, rfl⟩)
  | .cpyAbs _ => .inr (.inr ⟨_, rfl⟩)
  | .dcpZp _ => .inl ⟨_, rfl⟩
  | .dcpZpx _ => .inr (.inl ⟨_, rfl⟩)
  | .dcpAbs _ => .inr (.inr (.inl ⟨_, rfl⟩))
  | .dcpIzx _ => .inr (.inr (.inr (.inl ⟨_, rfl⟩)))
  | .dcpIzy _ => .inr (.inr (.inr (.inr (.inl ⟨_, rfl⟩))))
  | .dcpAbx _ => .inr (.inr (.inr (.inr (.inr (.inl ⟨_, rfl⟩)))))
  | .dcpAby _ => .inr (.inr (.inr (.inr (.inr (.inr ⟨_, rfl⟩)))))
  | .axsImm _ => ⟨_, rfl⟩
  | .andImm _ => .inl ⟨_, rfl⟩
  | .andZp _ => .inr (.inl ⟨_, rfl⟩)
  | .andZpx _ => .inr (.inr (.inl ⟨_, rfl⟩))
  | .andAbs _ => .inr (.inr (.inr (.inl ⟨_, rfl⟩)))
  | .andIzx _ => .inr (.inr (.inr (.inr (.inl ⟨_, rfl⟩))))
  | .andIzy _ => .inr (.inr (.inr (.inr (.inr (.inl ⟨_, rfl⟩)))))
  | .andAbx _ => .inr (.inr (.inr (.inr (.inr (.inr (.inl ⟨_, rfl⟩))))))
  | .andAby _ => .inr (.inr (.inr (.inr (.inr (.inr (.inr ⟨_, rfl⟩))))))
  | .oraImm _ => .inl ⟨_, rfl⟩
  | .oraZp _ => .inr (.inl ⟨_, rfl⟩)
  | .oraZpx _ => .inr (.inr (.inl ⟨_, rfl⟩))
  | .oraAbs _ => .inr (.inr (.inr (.inl ⟨_, rfl⟩)))
  | .oraIzx _ => .inr (.inr (.inr (.inr (.inl ⟨_, rfl⟩))))
  | .oraIzy _ => .inr (.inr (.inr (.inr (.inr (.inl ⟨_, rfl⟩)))))
  | .oraAbx _ => .inr (.inr (.inr (.inr (.inr (.inr (.inl ⟨_, rfl⟩))))))
  | .oraAby _ => .inr (.inr (.inr (.inr (.inr (.inr (.inr ⟨_, rfl⟩))))))
  | .eorImm _ => .inl ⟨_, rfl⟩
  | .eorZp _ => .inr (.inl ⟨_, rfl⟩)
  | .eorZpx _ => .inr (.inr (.inl ⟨_, rfl⟩))
  | .eorAbs _ => .inr (.inr (.inr (.inl ⟨_, rfl⟩)))
  | .eorIzx _ => .inr (.inr (.inr (.inr (.inl ⟨_, rfl⟩))))
  | .eorIzy _ => .inr (.inr (.inr (.inr (.inr (.inl ⟨_, rfl⟩)))))
  | .eorAbx _ => .inr (.inr (.inr (.inr (.inr (.inr (.inl ⟨_, rfl⟩))))))
  | .eorAby _ => .inr (.inr (.inr (.inr (.inr (.inr (.inr ⟨_, rfl⟩))))))
  | .rlaZp _ => .inl ⟨_, rfl⟩
  | .rlaZpx _ => .inr (.inl ⟨_, rfl⟩)
  | .rlaAbs _ => .inr (.inr (.inl ⟨_, rfl⟩))
  | .rlaIzx _ => .inr (.inr (.inr (.inl ⟨_, rfl⟩)))
  | .rlaIzy _ => .inr (.inr (.inr (.inr (.inl ⟨_, rfl⟩))))
  | .rlaAbx _ => .inr (.inr (.inr (.inr (.inr (.inl ⟨_, rfl⟩)))))
  | .rlaAby _ => .inr (.inr (.inr (.inr (.inr (.inr ⟨_, rfl⟩)))))
  | .sloZp _ => .inl ⟨_, rfl⟩
  | .sloZpx _ => .inr (.inl ⟨_, rfl⟩)
  | .sloAbs _ => .inr (.inr (.inl ⟨_, rfl⟩))
  | .sloIzx _ => .inr (.inr (.inr (.inl ⟨_, rfl⟩)))
  | .sloIzy _ => .inr (.inr (.inr (.inr (.inl ⟨_, rfl⟩))))
  | .sloAbx _ => .inr (.inr (.inr (.inr (.inr (.inl ⟨_, rfl⟩)))))
  | .sloAby _ => .inr (.inr (.inr (.inr (.inr (.inr ⟨_, rfl⟩)))))
  | .sreZp _ => .inl ⟨_, rfl⟩
  | .sreZpx _ => .inr (.inl ⟨_, rfl⟩)
  | .sreAbs _ => .inr (.inr (.inl ⟨_, rfl⟩))
  | .sreIzx _ => .inr (.inr (.inr (.inl ⟨_, rfl⟩)))
  | .sreIzy _ => .inr (.inr (.inr (.inr (.inl ⟨_, rfl⟩))))
  | .sreAbx _ => .inr (.inr (.inr (.inr (.inr (.inl ⟨_, rfl⟩)))))
  | .sreAby _ => .inr (.inr (.inr (.inr (.inr (.inr ⟨_, rfl⟩)))))
  | .ancImm0B _ => .inl ⟨_, rfl⟩
  | .ancImm2B _ => .inr ⟨_, rfl⟩
  | .alrImm _ => ⟨_, rfl⟩
  | .arrImm _ => ⟨_, rfl⟩
  | .xaaImm _ => ⟨_, rfl⟩
  | .bitZp _ => .inl ⟨_, rfl⟩
  | .bitAbs _ => .inr ⟨_, rfl⟩
  | .incZp _ => .inl ⟨_, rfl⟩
  | .incZpx _ => .inr (.inl ⟨_, rfl⟩)
  | .incAbs _ => .inr (.inr (.inl ⟨_, rfl⟩))
  | .incAbx _ => .inr (.inr (.inr ⟨_, rfl⟩))
  | .decZp _ => .inl ⟨_, rfl⟩
  | .decZpx _ => .inr (.inl ⟨_, rfl⟩)
  | .decAbs _ => .inr (.inr (.inl ⟨_, rfl⟩))
  | .decAbx _ => .inr (.inr (.inr ⟨_, rfl⟩))
  | .inx => rfl
  | .iny => rfl
  | .dex => rfl
  | .dey => rfl
  | .aslAcc => .inl rfl
  | .aslZp _ => .inr (.inl ⟨_, rfl⟩)
  | .aslZpx _ => .inr (.inr (.inl ⟨_, rfl⟩))
  | .aslAbs _ => .inr (.inr (.inr (.inl ⟨_, rfl⟩)))
  | .aslAbx _ => .inr (.inr (.inr (.inr ⟨_, rfl⟩)))
  | .lsrAcc => .inl rfl
  | .lsrZp _ => .inr (.inl ⟨_, rfl⟩)
  | .lsrZpx _ => .inr (.inr (.inl ⟨_, rfl⟩))
  | .lsrAbs _ => .inr (.inr (.inr (.inl ⟨_, rfl⟩)))
  | .lsrAbx _ => .inr (.inr (.inr (.inr ⟨_, rfl⟩)))
  | .rolAcc => .inl rfl
  | .rolZp _ => .inr (.inl ⟨_, rfl⟩)
  | .rolZpx _ => .inr (.inr (.inl ⟨_, rfl⟩))
  | .rolAbs _ => .inr (.inr (.inr (.inl ⟨_, rfl⟩)))
  | .rolAbx _ => .inr (.inr (.inr (.inr ⟨_, rfl⟩)))
  | .rorAcc => .inl rfl
  | .rorZp _ => .inr (.inl ⟨_, rfl⟩)
  | .rorZpx _ => .inr (.inr (.inl ⟨_, rfl⟩))
  | .rorAbs _ => .inr (.inr (.inr (.inl ⟨_, rfl⟩)))
  | .rorAbx _ => .inr (.inr (.inr (.inr ⟨_, rfl⟩)))
  | .jmpAbs _ => .inl ⟨_, rfl⟩
  | .jmpInd _ => .inr ⟨_, rfl⟩
  | .jsr _ => ⟨_, rfl⟩
  | .rts => rfl
  | .bpl _ => ⟨_, rfl⟩
  | .bmi _ => ⟨_, rfl⟩
  | .bvc _ => ⟨_, rfl⟩
  | .bvs _ => ⟨_, rfl⟩
  | .bcc _ => ⟨_, rfl⟩
  | .bcs _ => ⟨_, rfl⟩
  | .bne _ => ⟨_, rfl⟩
  | .beq _ => ⟨_, rfl⟩
  | .brk => rfl
  | .rti => rfl
  | .clc => rfl
  | .sec => rfl
  | .cli => rfl
  | .sei => rfl
  | .cld => rfl
  | .sed => rfl
  | .clv => rfl
  | .nop => .inl rfl
  | .nopImp1A => .inr (.inl rfl)
  | .nopImp3A => .inr (.inr (.inl rfl))
  | .nopImp5A => .inr (.inr (.inr (.inl rfl)))
  | .nopImp7A => .inr (.inr (.inr (.inr (.inl rfl))))
  | .nopImpDA => .inr (.inr (.inr (.inr (.inr (.inl rfl)))))
  | .nopImpFA => .inr (.inr (.inr (.inr (.inr (.inr (.inl rfl))))))
  | .nopImm80 _ => .inr (.inr (.inr (.inr (.inr (.inr (.inr (.inl ⟨_, rfl⟩)))))))
  | .nopImm82 _ => .inr (.inr (.inr (.inr (.inr (.inr (.inr (.inr (.inl ⟨_, rfl⟩))))))))
  | .nopImm89 _ => .inr (.inr (.inr (.inr (.inr (.inr (.inr (.inr (.inr (.inl ⟨_, rfl⟩)))))))))
  | .nopImmC2 _ => .inr (.inr (.inr (.inr (.inr (.inr (.inr (.inr (.inr (.inr (.inl ⟨_, rfl⟩))))))))))
  | .nopImmE2 _ => .inr (.inr (.inr (.inr (.inr (.inr (.inr (.inr (.inr (.inr (.inr (.inl ⟨_, rfl⟩)))))))))))
  | .nopZp04 _ => .inr (.inr (.inr (.inr (.inr (.inr (.inr (.inr (.inr (.inr (.inr (.inr (.inl ⟨_, rfl⟩))))))))))))
  | .nopZp44 _ => .inr (.inr (.inr (.inr (.inr (.inr (.inr (.inr (.inr (.inr (.inr (.inr (.inr (.inl ⟨_, rfl⟩)))))))))))))
  | .nopZp64 _ => .inr (.inr (.inr (.inr (.inr (.inr (.inr (.inr (.inr (.inr (.inr (.inr (.inr (.inr (.inl ⟨_, rfl⟩))))))))))))))
  | .nopZpx14 _ => .inr (.inr (.inr (.inr (.inr (.inr (.inr (.inr (.inr (.inr (.inr (.inr (.inr (.inr (.inr (.inl ⟨_, rfl⟩)))))))))))))))
  | .nopZpx34 _ => .inr (.inr (.inr (.inr (.inr (.inr (.inr (.inr (.inr (.inr (.inr (.inr (.inr (.inr (.inr (.inr (.inl ⟨_, rfl⟩))))))))))))))))
  | .nopZpx54 _ => .inr (.inr (.inr (.inr (.inr (.inr (.inr (.inr (.inr (.inr (.inr (.inr (.inr (.inr (.inr (.inr (.inr (.inl ⟨_, rfl⟩)))))))))))))))))
  | .nopZpx74 _ => .inr (.inr (.inr (.inr (.inr (.inr (.inr (.inr (.inr (.inr (.inr (.inr (.inr (.inr (.inr (.inr (.inr (.inr (.inl ⟨_, rfl⟩))))))))))))))))))
  | .nopZpxD4 _ => .inr (.inr (.inr (.inr (.inr (.inr (.inr (.inr (.inr (.inr (.inr (.inr (.inr (.inr (.inr (.inr (.inr (.inr (.inr (.inl ⟨_, rfl⟩)))))))))))))))))))
  | .nopZpxF4 _ => .inr (.inr (.inr (.inr (.inr (.inr (.inr (.inr (.inr (.inr (.inr (.inr (.inr (.inr (.inr (.inr (.inr (.inr (.inr (.inr (.inl ⟨_, rfl⟩))))))))))))))))))))
  | .nopAbs0C _ => .inr (.inr (.inr (.inr (.inr (.inr (.inr (.inr (.inr (.inr (.inr (.inr (.inr (.inr (.inr (.inr (.inr (.inr (.inr (.inr (.inr (.inl ⟨_, rfl⟩)))))))))))))))))))))
  | .nopAbx1C _ => .inr (.inr (.inr (.inr (.inr (.inr (.inr (.inr (.inr (.inr (.inr (.inr (.inr (.inr (.inr (.inr (.inr (.inr (.inr (.inr (.inr (.inr (.inl ⟨_, rfl⟩))))))))))))))))))))))
  | .nopAbx3C _ => .inr (.inr (.inr (.inr (.inr (.inr (.inr (.inr (.inr (.inr (.inr (.inr (.inr (.inr (.inr (.inr (.inr (.inr (.inr (.inr (.inr (.inr (.inr (.inl ⟨_, rfl⟩)))))))))))))))))))))))
  | .nopAbx5C _ => .inr (.inr (.inr (.inr (.inr (.inr (.inr (.inr (.inr (.inr (.inr (.inr (.inr (.inr (.inr (.inr (.inr (.inr (.inr (.inr (.inr (.inr (.inr (.inr (.inl ⟨_, rfl⟩))))))))))))))))))))))))
  | .nopAbx7C _ => .inr (.inr (.inr (.inr (.inr (.inr (.inr (.inr (.inr (.inr (.inr (.inr (.inr (.inr (.inr (.inr (.inr (.inr (.inr (.inr (.inr (.inr (.inr (.inr (.inr (.inl ⟨_, rfl⟩)))))))))))))))))))))))))
  | .nopAbxDC _ => .inr (.inr (.inr (.inr (.inr (.inr (.inr (.inr (.inr (.inr (.inr (.inr (.inr (.inr (.inr (.inr (.inr (.inr (.inr (.inr (.inr (.inr (.inr (.inr (.inr (.inr (.inl ⟨_, rfl⟩))))))))))))))))))))))))))
  | .nopAbxFC _ => .inr (.inr (.inr (.inr (.inr (.inr (.inr (.inr (.inr (.inr (.inr (.inr (.inr (.inr (.inr (.inr (.inr (.inr (.inr (.inr (.inr (.inr (.inr (.inr (.inr (.inr (.inr ⟨_, rfl⟩))))))))))))))))))))))))))
  | .kil02 => .inl rfl
  | .kil12 => .inr (.inl rfl)
  | .kil22 => .inr (.inr (.inl rfl))
  | .kil32 => .inr (.inr (.inr (.inl rfl)))
  | .kil42 => .inr (.inr (.inr (.inr (.inl rfl))))
  | .kil52 => .inr (.inr (.inr (.inr (.inr (.inl rfl)))))
  | .kil62 => .inr (.inr (.inr (.inr (.inr (.inr (.inl rfl))))))
  | .kil72 => .inr (.inr (.inr (.inr (.inr (.inr (.inr (.inl rfl)))))))
  | .kil92 => .inr (.inr (.inr (.inr (.inr (.inr (.inr (.inr (.inl rfl))))))))
  | .kil93 => .inr (.inr (.inr (.inr (.inr (.inr (.inr (.inr (.inr (.inl rfl)))))))))
  | .kil9B => .inr (.inr (.inr (.inr (.inr (.inr (.inr (.inr (.inr (.inr (.inl rfl))))))))))
  | .kil9F => .inr (.inr (.inr (.inr (.inr (.inr (.inr (.inr (.inr (.inr (.inr (.inl rfl)))))))))))
  | .kilAB => .inr (.inr (.inr (.inr (.inr (.inr (.inr (.inr (.inr (.inr (.inr (.inr (.inl rfl))))))))))))
  | .kilB2 => .inr (.inr (.inr (.inr (.inr (.inr (.inr (.inr (.inr (.inr (.inr (.inr (.inr (.inl rfl)))))))))))))
  | .kilBB => .inr (.inr (.inr (.inr (.inr (.inr (.inr (.inr (.inr (.inr (.inr (.inr (.inr (.inr (.inl rfl))))))))))))))
  | .kilD2 => .inr (.inr (.inr (.inr (.inr (.inr (.inr (.inr (.inr (.inr (.inr (.inr (.inr (.inr (.inr (.inl rfl)))))))))))))))
  | .kilF2 => .inr (.inr (.inr (.inr (.inr (.inr (.inr (.inr (.inr (.inr (.inr (.inr (.inr (.inr (.inr (.inr rfl)))))))))))))))

end Sys2Proof
end

