-- ==== Sys2Proof/Laws/State.lean ====
section
/-! SUPPORT. What each shared operation does to each field of the state: one lemma a field, true by definition. -/

namespace Sys2Proof.Machine

/-! ## poke -/

@[simp] theorem State.poke_A (s : State) (a : Addr) (v : Byte) : (s.poke a v).A = s.A := rfl
@[simp] theorem State.poke_X (s : State) (a : Addr) (v : Byte) : (s.poke a v).X = s.X := rfl
@[simp] theorem State.poke_Y (s : State) (a : Addr) (v : Byte) : (s.poke a v).Y = s.Y := rfl
@[simp] theorem State.poke_S (s : State) (a : Addr) (v : Byte) : (s.poke a v).S = s.S := rfl
@[simp] theorem State.poke_PC (s : State) (a : Addr) (v : Byte) : (s.poke a v).PC = s.PC := rfl
@[simp] theorem State.poke_C (s : State) (a : Addr) (v : Byte) : (s.poke a v).C = s.C := rfl
@[simp] theorem State.poke_Z (s : State) (a : Addr) (v : Byte) : (s.poke a v).Z = s.Z := rfl
@[simp] theorem State.poke_I (s : State) (a : Addr) (v : Byte) : (s.poke a v).I = s.I := rfl
@[simp] theorem State.poke_D (s : State) (a : Addr) (v : Byte) : (s.poke a v).D = s.D := rfl
@[simp] theorem State.poke_B (s : State) (a : Addr) (v : Byte) : (s.poke a v).B = s.B := rfl
@[simp] theorem State.poke_V (s : State) (a : Addr) (v : Byte) : (s.poke a v).V = s.V := rfl
@[simp] theorem State.poke_N (s : State) (a : Addr) (v : Byte) : (s.poke a v).N = s.N := rfl
@[simp] theorem State.poke_opcode (s : State) (a : Addr) (v : Byte) : (s.poke a v).opcode = s.opcode := rfl
@[simp] theorem State.poke_cycles (s : State) (a : Addr) (v : Byte) : (s.poke a v).cycles = s.cycles := rfl
@[simp] theorem State.poke_totalCycles (s : State) (a : Addr) (v : Byte) : (s.poke a v).totalCycles = s.totalCycles := rfl
@[simp] theorem State.poke_nmiEdge (s : State) (a : Addr) (v : Byte) : (s.poke a v).nmiEdge = s.nmiEdge := rfl
@[simp] theorem State.poke_status (s : State) (a : Addr) (v : Byte) : (s.poke a v).status = s.status := rfl
@[simp] theorem State.poke_bus (s : State) (a : Addr) (v : Byte) : (s.poke a v).bus = s.bus := rfl
@[simp] theorem State.poke_mem (s : State) (a : Addr) (v : Byte) : (s.poke a v).mem = s.storeEffect a v := rfl
@[simp] theorem State.poke_providerState (s : State) (a : Addr) (v : Byte) : (s.poke a v).providerState = s.writeEffect a v := rfl
@[simp] theorem State.poke_cfg (s : State) (a : Addr) (v : Byte) : (s.poke a v).cfg = s.cfg := rfl

/-! ## afterRead -/

@[simp] theorem State.afterRead_A (s : State) (a : Addr) : (s.afterRead a).A = s.A := rfl
@[simp] theorem State.afterRead_X (s : State) (a : Addr) : (s.afterRead a).X = s.X := rfl
@[simp] theorem State.afterRead_Y (s : State) (a : Addr) : (s.afterRead a).Y = s.Y := rfl
@[simp] theorem State.afterRead_S (s : State) (a : Addr) : (s.afterRead a).S = s.S := rfl
@[simp] theorem State.afterRead_PC (s : State) (a : Addr) : (s.afterRead a).PC = s.PC := rfl
@[simp] theorem State.afterRead_C (s : State) (a : Addr) : (s.afterRead a).C = s.C := rfl
@[simp] theorem State.afterRead_Z (s : State) (a : Addr) : (s.afterRead a).Z = s.Z := rfl
@[simp] theorem State.afterRead_I (s : State) (a : Addr) : (s.afterRead a).I = s.I := rfl
@[simp] theorem State.afterRead_D (s : State) (a : Addr) : (s.afterRead a).D = s.D := rfl
@[simp] theorem State.afterRead_B (s : State) (a : Addr) : (s.afterRead a).B = s.B := rfl
@[simp] theorem State.afterRead_V (s : State) (a : Addr) : (s.afterRead a).V = s.V := rfl
@[simp] theorem State.afterRead_N (s : State) (a : Addr) : (s.afterRead a).N = s.N := rfl
@[simp] theorem State.afterRead_opcode (s : State) (a : Addr) : (s.afterRead a).opcode = s.opcode := rfl
@[simp] theorem State.afterRead_cycles (s : State) (a : Addr) : (s.afterRead a).cycles = s.cycles := rfl
@[simp] theorem State.afterRead_totalCycles (s : State) (a : Addr) : (s.afterRead a).totalCycles = s.totalCycles := rfl
@[simp] theorem State.afterRead_nmiEdge (s : State) (a : Addr) : (s.afterRead a).nmiEdge = s.nmiEdge := rfl
@[simp] theorem State.afterRead_status (s : State) (a : Addr) : (s.afterRead a).status = s.status := rfl
@[simp] theorem State.afterRead_bus (s : State) (a : Addr) : (s.afterRead a).bus = s.bus := rfl
@[simp] theorem State.afterRead_mem (s : State) (a : Addr) : (s.afterRead a).mem = s.mem := rfl
@[simp] theorem State.afterRead_providerState (s : State) (a : Addr) : (s.afterRead a).providerState = s.readEffect a := rfl
@[simp] theorem State.afterRead_cfg (s : State) (a : Addr) : (s.afterRead a).cfg = s.cfg := rfl

/-! ## memRead -/

@[simp] theorem memRead_A (a : Addr) (s : State) : (memRead a s).2.A = s.A := rfl
@[simp] theorem memRead_X (a : Addr) (s : State) : (memRead a s).2.X = s.X := rfl
@[simp] theorem memRead_Y (a : Addr) (s : State) : (memRead a s).2.Y = s.Y := rfl
@[simp] theorem memRead_S (a : Addr) (s : State) : (memRead a s).2.S = s.S := rfl
@[simp] theorem memRead_PC (a : Addr) (s : State) : (memRead a s).2.PC = s.PC := rfl
@[simp] theorem memRead_C (a : Addr) (s : State) : (memRead a s).2.C = s.C := rfl
@[simp] theorem memRead_Z (a : Addr) (s : State) : (memRead a s).2.Z = s.Z := rfl
@[simp] theorem memRead_I (a : Addr) (s : State) : (memRead a s).2.I = s.I := rfl
@[simp] theorem memRead_D (a : Addr) (s : State) : (memRead a s).2.D = s.D := rfl
@[simp] theorem memRead_B (a : Addr) (s : State) : (memRead a s).2.B = s.B := rfl
@[simp] theorem memRead_V (a : Addr) (s : State) : (memRead a s).2.V = s.V := rfl
@[simp] theorem memRead_N (a : Addr) (s : State) : (memRead a s).2.N = s.N := rfl
@[simp] theorem memRead_opcode (a : Addr) (s : State) : (memRead a s).2.opcode = s.opcode := rfl
@[simp] theorem memRead_cycles (a : Addr) (s : State) : (memRead a s).2.cycles = s.cycles := rfl
@[simp] theorem memRead_totalCycles (a : Addr) (s : State) : (memRead a s).2.totalCycles = s.totalCycles := rfl
@[simp] theorem memRead_nmiEdge (a : Addr) (s : State) : (memRead a s).2.nmiEdge = s.nmiEdge := rfl
@[simp] theorem memRead_status (a : Addr) (s : State) : (memRead a s).2.status = s.status := rfl
@[simp] theorem memRead_bus (a : Addr) (s : State) : (memRead a s).2.bus = s.bus ++ [.read a] := rfl
@[simp] theorem memRead_mem (a : Addr) (s : State) : (memRead a s).2.mem = s.mem := rfl
@[simp] theorem memRead_providerState (a : Addr) (s : State) : (memRead a s).2.providerState = s.readEffect a := rfl
@[simp] theorem memRead_cfg (a : Addr) (s : State) : (memRead a s).2.cfg = s.cfg := rfl

/-! ## memWrite -/

@[simp] theorem memWrite_A (a : Addr) (v : Byte) (s : State) : (memWrite a v s).A = s.A := rfl
@[simp] theorem memWrite_X (a : Addr) (v : Byte) (s : State) : (memWrite a v s).X = s.X := rfl
@[simp] theorem memWrite_Y (a : Addr) (v : Byte) (s : State) : (memWrite a v s).Y = s.Y := rfl
@[simp] theorem memWrite_S (a : Addr) (v : Byte) (s : State) : (memWrite a v s).S = s.S := rfl
@[simp] theorem memWrite_PC (a : Addr) (v : Byte) (s : State) : (memWrite a v s).PC = s.PC := rfl
@[simp] theorem memWrite_C (a : Addr) (v : Byte) (s : State) : (memWrite a v s).C = s.C := rfl
@[simp] theorem memWrite_Z (a : Addr) (v : Byte) (s : State) : (memWrite a v s).Z = s.Z := rfl
@[simp] theorem memWrite_I (a : Addr) (v : Byte) (s : State) : (memWrite a v s).I = s.I := rfl
@[simp] theorem memWrite_D (a : Addr) (v : Byte) (s : State) : (memWrite a v s).D = s.D := rfl
@[simp] theorem memWrite_B (a : Addr) (v : Byte) (s : State) : (memWrite a v s).B = s.B := rfl
@[simp] theorem memWrite_V (a : Addr) (v : Byte) (s : State) : (memWrite a v s).V = s.V := rfl
@[simp] theorem memWrite_N (a : Addr) (v : Byte) (s : State) : (memWrite a v s).N = s.N := rfl
@[simp] theorem memWrite_opcode (a : Addr) (v : Byte) (s : State) : (memWrite a v s).opcode = s.opcode := rfl
@[simp] theorem memWrite_cycles (a : Addr) (v : Byte) (s : State) : (memWrite a v s).cycles = s.cycles := rfl
@[simp] theorem memWrite_totalCycles (a : Addr) (v : Byte) (s : State) : (memWrite a v s).totalCycles = s.totalCycles := rfl
@[simp] theorem memWrite_nmiEdge (a : Addr) (v : Byte) (s : State) : (memWrite a v s).nmiEdge = s.nmiEdge := rfl
@[simp] theorem memWrite_status (a : Addr) (v : Byte) (s : State) : (memWrite a v s).status = s.status := rfl
@[simp] theorem memWrite_bus (a : Addr) (v : Byte) (s : State) : (memWrite a v s).bus = s.bus ++ [.write a v] := rfl
@[simp] theorem memWrite_mem (a : Addr) (v : Byte) (s : State) : (memWrite a v s).mem = s.storeEffect a v := rfl
@[simp] theorem memWrite_providerState (a : Addr) (v : Byte) (s : State) : (memWrite a v s).providerState = s.writeEffect a v := rfl
@[simp] theorem memWrite_cfg (a : Addr) (v : Byte) (s : State) : (memWrite a v s).cfg = s.cfg := rfl

/-! ## read16 -/

@[simp] theorem read16_A (a : Addr) (s : State) : (read16 a s).2.A = s.A :=
  (memRead_A (a + 1) (memRead a s).2).trans (memRead_A a s)
@[simp] theorem read16_X (a : Addr) (s : State) : (read16 a s).2.X = s.X :=
  (memRead_X (a + 1) (memRead a s).2).trans (memRead_X a s)
@[simp] theorem read16_Y (a : Addr) (s : State) : (read16 a s).2.Y = s.Y :=
  (memRead_Y (a + 1) (memRead a s).2).trans (memRead_Y a s)
@[simp] theorem read16_S (a : Addr) (s : State) : (read16 a s).2.S = s.S :=
  (memRead_S (a + 1) (memRead a s).2).trans (memRead_S a s)
@[simp] theorem read16_PC (a : Addr) (s : State) : (read16 a s).2.PC = s.PC :=
  (memRead_PC (a + 1) (memRead a s).2).trans (memRead_PC a s)
@[simp] theorem read16_C (a : Addr) (s : State) : (read16 a s).2.C = s.C :=
  (memRead_C (a + 1) (memRead a s).2).trans (memRead_C a s)
@[simp] theorem read16_Z (a : Addr) (s : State) : (read16 a s).2.Z = s.Z :=
  (memRead_Z (a + 1) (memRead a s).2).trans (memRead_Z a s)
@[simp] theorem read16_I (a : Addr) (s : State) : (read16 a s).2.I = s.I :=
  (memRead_I (a + 1) (memRead a s).2).trans (memRead_I a s)
@[simp] theorem read16_D (a : Addr) (s : State) : (read16 a s).2.D = s.D :=
  (memRead_D (a + 1) (memRead a s).2).trans (memRead_D a s)
@[simp] theorem read16_B (a : Addr) (s : State) : (read16 a s).2.B = s.B :=
  (memRead_B (a + 1) (memRead a s).2).trans (memRead_B a s)
@[simp] theorem read16_V (a : Addr) (s : State) : (read16 a s).2.V = s.V :=
  (memRead_V (a + 1) (memRead a s).2).trans (memRead_V a s)
@[simp] theorem read16_N (a : Addr) (s : State) : (read16 a s).2.N = s.N :=
  (memRead_N (a + 1) (memRead a s).2).trans (memRead_N a s)
@[simp] theorem read16_opcode (a : Addr) (s : State) : (read16 a s).2.opcode = s.opcode :=
  (memRead_opcode (a + 1) (memRead a s).2).trans (memRead_opcode a s)
@[simp] theorem read16_cycles (a : Addr) (s : State) : (read16 a s).2.cycles = s.cycles :=
  (memRead_cycles (a + 1) (memRead a s).2).trans (memRead_cycles a s)
@[simp] theorem read16_totalCycles (a : Addr) (s : State) : (read16 a s).2.totalCycles = s.totalCycles :=
  (memRead_totalCycles (a + 1) (memRead a s).2).trans (memRead_totalCycles a s)
@[simp] theorem read16_nmiEdge (a : Addr) (s : State) : (read16 a s).2.nmiEdge = s.nmiEdge :=
  (memRead_nmiEdge (a + 1) (memRead a s).2).trans (memRead_nmiEdge a s)
@[simp] theorem read16_status (a : Addr) (s : State) : (read16 a s).2.status = s.status :=
  (memRead_status (a + 1) (memRead a s).2).trans (memRead_status a s)
@[simp] theorem read16_bus (a : Addr) (s : State) : (read16 a s).2.bus = s.bus ++ [.read a] ++ [.read (a + 1)] := rfl
@[simp] theorem read16_mem (a : Addr) (s : State) : (read16 a s).2.mem = s.mem :=
  (memRead_mem (a + 1) (memRead a s).2).trans (memRead_mem a s)
@[simp] theorem read16_providerState (a : Addr) (s : State) : (read16 a s).2.providerState = (s.afterRead a).readEffect (a + 1) := rfl
@[simp] theorem read16_cfg (a : Addr) (s : State) : (read16 a s).2.cfg = s.cfg :=
  (memRead_cfg (a + 1) (memRead a s).2).trans (memRead_cfg a s)

/-! ## fetch8 -/

@[simp] theorem fetch8_A (s : State) : (fetch8 s).2.A = s.A := rfl
@[simp] theorem fetch8_X (s : State) : (fetch8 s).2.X = s.X := rfl
@[simp] theorem fetch8_Y (s : State) : (fetch8 s).2.Y = s.Y := rfl
@[simp] theorem fetch8_S (s : State) : (fetch8 s).2.S = s.S := rfl
@[simp] theorem fetch8_PC (s : State) : (fetch8 s).2.PC = s.PC + 1 := rfl
@[simp] theorem fetch8_C (s : State) : (fetch8 s).2.C = s.C := rfl
@[simp] theorem fetch8_Z (s : State) : (fetch8 s).2.Z = s.Z := rfl
@[simp] theorem fetch8_I (s : State) : (fetch8 s).2.I = s.I := rfl
@[simp] theorem fetch8_D (s : State) : (fetch8 s).2.D = s.D := rfl
@[simp] theorem fetch8_B (s : State) : (fetch8 s).2.B = s.B := rfl
@[simp] theorem fetch8_V (s : State) : (fetch8 s).2.V = s.V := rfl
@[simp] theorem fetch8_N (s : State) : (fetch8 s).2.N = s.N := rfl
@[simp] theorem fetch8_opcode (s : State) : (fetch8 s).2.opcode = s.opcode := rfl
@[simp] theorem fetch8_cycles (s : State) : (fetch8 s).2.cycles = s.cycles := rfl
@[simp] theorem fetch8_totalCycles (s : State) : (fetch8 s).2.totalCycles = s.totalCycles := rfl
@[simp] theorem fetch8_nmiEdge (s : State) : (fetch8 s).2.nmiEdge = s.nmiEdge := rfl
@[simp] theorem fetch8_status (s : State) : (fetch8 s).2.status = s.status := rfl
@[simp] theorem fetch8_bus (s : State) : (fetch8 s).2.bus = s.bus ++ [.read s.PC] := rfl
@[simp] theorem fetch8_mem (s : State) : (fetch8 s).2.mem = s.mem := rfl
@[simp] theorem fetch8_providerState (s : State) : (fetch8 s).2.providerState = s.readEffect s.PC := rfl
@[simp] theorem fetch8_cfg (s : State) : (fetch8 s).2.cfg = s.cfg := rfl

/-! ## push8 -/

@[simp] theorem push8_A (v : Byte) (s : State) : (push8 v s).A = s.A := rfl
@[simp] theorem push8_X (v : Byte) (s : State) : (push8 v s).X = s.X := rfl
@[simp] theorem push8_Y (v : Byte) (s : State) : (push8 v s).Y = s.Y := rfl
@[simp] theorem push8_S (v : Byte) (s : State) : (push8 v s).S = s.S - 1 := rfl
@[simp] theorem push8_PC (v : Byte) (s : State) : (push8 v s).PC = s.PC := rfl
@[simp] theorem push8_C (v : Byte) (s : State) : (push8 v s).C = s.C := rfl
@[simp] theorem push8_Z (v : Byte) (s : State) : (push8 v s).Z = s.Z := rfl
@[simp] theorem push8_I (v : Byte) (s : State) : (push8 v s).I = s.I := rfl
@[simp] theorem push8_D (v : Byte) (s : State) : (push8 v s).D = s.D := rfl
@[simp] theorem push8_B (v : Byte) (s : State) : (push8 v s).B = s.B := rfl
@[simp] theorem push8_V (v : Byte) (s : State) : (push8 v s).V = s.V := rfl
@[simp] theorem push8_N (v : Byte) (s : State) : (push8 v s).N = s.N := rfl
@[simp] theorem push8_opcode (v : Byte) (s : State) : (push8 v s).opcode = s.opcode := rfl
@[simp] theorem push8_cycles (v : Byte) (s : State) : (push8 v s).cycles = s.cycles := rfl
@[simp] theorem push8_totalCycles (v : Byte) (s : State) : (push8 v s).totalCycles = s.totalCycles := rfl
@[simp] theorem push8_nmiEdge (v : Byte) (s : State) : (push8 v s).nmiEdge = s.nmiEdge := rfl
@[simp] theorem push8_status (v : Byte) (s : State) : (push8 v s).status = s.status := rfl
@[simp] theorem push8_bus (v : Byte) (s : State) : (push8 v s).bus = s.bus ++ [.write (stackAddr s.S) v] := rfl
@[simp] theorem push8_mem (v : Byte) (s : State) : (push8 v s).mem = s.storeEffect (stackAddr s.S) v := rfl
@[simp] theorem push8_providerState (v : Byte) (s : State) : (push8 v s).providerState = s.writeEffect (stackAddr s.S) v := rfl
@[simp] theorem push8_cfg (v : Byte) (s : State) : (push8 v s).cfg = s.cfg := rfl

/-! ## pull8 -/

@[simp] theorem pull8_A (s : State) : (pull8 s).2.A = s.A := rfl
@[simp] theorem pull8_X (s : State) : (pull8 s).2.X = s.X := rfl
@[simp] theorem pull8_Y (s : State) : (pull8 s).2.Y = s.Y := rfl
@[simp] theorem pull8_S (s : State) : (pull8 s).2.S = s.S + 1 := rfl
@[simp] theorem pull8_PC (s : State) : (pull8 s).2.PC = s.PC := rfl
@[simp] theorem pull8_C (s : State) : (pull8 s).2.C = s.C := rfl
@[simp] theorem pull8_Z (s : State) : (pull8 s).2.Z = s.Z := rfl
@[simp] theorem pull8_I (s : State) : (pull8 s).2.I = s.I := rfl
@[simp] theorem pull8_D (s : State) : (pull8 s).2.D = s.D := rfl
@[simp] theorem pull8_B (s : State) : (pull8 s).2.B = s.B := rfl
@[simp] theorem pull8_V (s : State) : (pull8 s).2.V = s.V := rfl
@[simp] theorem pull8_N (s : State) : (pull8 s).2.N = s.N := rfl
@[simp] theorem pull8_opcode (s : State) : (pull8 s).2.opcode = s.opcode := rfl
@[simp] theorem pull8_cycles (s : State) : (pull8 s).2.cycles = s.cycles := rfl
@[simp] theorem pull8_totalCycles (s : State) : (pull8 s).2.totalCycles = s.totalCycles := rfl
@[simp] theorem pull8_nmiEdge (s : State) : (pull8 s).2.nmiEdge = s.nmiEdge := rfl
@[simp] theorem pull8_status (s : State) : (pull8 s).2.status = s.status := rfl
@[simp] theorem pull8_bus (s : State) : (pull8 s).2.bus = s.bus ++ [.read (stackAddr (s.S + 1))] := rfl
@[simp] theorem pull8_mem (s : State) : (pull8 s).2.mem = s.mem := rfl
@[simp] theorem pull8_providerState (s : State) : (pull8 s).2.providerState = s.readEffect (stackAddr (s.S + 1)) := rfl
@[simp] theorem pull8_cfg (s : State) : (pull8 s).2.cfg = s.cfg := rfl

/-! ## charge -/

@[simp] theorem charge_A (n : Nat) (st : StepStatus) (s : State) : (charge n st s).A = s.A := rfl
@[simp] theorem charge_X (n : Nat) (st : StepStatus) (s : State) : (charge n st s).X = s.X := rfl
@[simp] theorem charge_Y (n : Nat) (st : StepStatus) (s : State) : (charge n st s).Y = s.Y := rfl
@[simp] theorem charge_S (n : Nat) (st : StepStatus) (s : State) : (charge n st s).S = s.S := rfl
@[simp] theorem charge_PC (n : Nat) (st : StepStatus) (s : State) : (charge n st s).PC = s.PC := rfl
@[simp] theorem charge_C (n : Nat) (st : StepStatus) (s : State) : (charge n st s).C = s.C := rfl
@[simp] theorem charge_Z (n : Nat) (st : StepStatus) (s : State) : (charge n st s).Z = s.Z := rfl
@[simp] theorem charge_I (n : Nat) (st : StepStatus) (s : State) : (charge n st s).I = s.I := rfl
@[simp] theorem charge_D (n : Nat) (st : StepStatus) (s : State) : (charge n st s).D = s.D := rfl
@[simp] theorem charge_B (n : Nat) (st : StepStatus) (s : State) : (charge n st s).B = s.B := rfl
@[simp] theorem charge_V (n : Nat) (st : StepStatus) (s : State) : (charge n st s).V = s.V := rfl
@[simp] theorem charge_N (n : Nat) (st : StepStatus) (s : State) : (charge n st s).N = s.N := rfl
@[simp] theorem charge_opcode (n : Nat) (st : StepStatus) (s : State) : (charge n st s).opcode = s.opcode := rfl
@[simp] theorem charge_cycles (n : Nat) (st : StepStatus) (s : State) : (charge n st s).cycles = n := rfl
@[simp] theorem charge_totalCycles (n : Nat) (st : StepStatus) (s : State) : (charge n st s).totalCycles = s.totalCycles + n := rfl
@[simp] theorem charge_nmiEdge (n : Nat) (st : StepStatus) (s : State) : (charge n st s).nmiEdge = s.nmiEdge := rfl
@[simp] theorem charge_status (n : Nat) (st : StepStatus) (s : State) : (charge n st s).status = st := rfl
@[simp] theorem charge_bus (n : Nat) (st : StepStatus) (s : State) : (charge n st s).bus = s.bus := rfl
@[simp] theorem charge_mem (n : Nat) (st : StepStatus) (s : State) : (charge n st s).mem = s.mem := rfl
@[simp] theorem charge_providerState (n : Nat) (st : StepStatus) (s : State) : (charge n st s).providerState = s.providerState := rfl
@[simp] theorem charge_cfg (n : Nat) (st : StepStatus) (s : State) : (charge n st s).cfg = s.cfg := rfl

/-! ## updateZN -/

@[simp] theorem updateZN_A (v : Byte) (s : State) : (updateZN v s).A = s.A := rfl
@[simp] theorem updateZN_X (v : Byte) (s : State) : (updateZN v s).X = s.X := rfl
@[simp] theorem updateZN_Y (v : Byte) (s : State) : (updateZN v s).Y = s.Y := rfl
@[simp] theorem updateZN_S (v : Byte) (s : State) : (updateZN v s).S = s.S := rfl
@[simp] theorem updateZN_PC (v : Byte) (s : State) : (updateZN v s).PC = s.PC := rfl
@[simp] theorem updateZN_C (v : Byte) (s : State) : (updateZN v s).C = s.C := rfl
@[simp] theorem updateZN_Z (v : Byte) (s : State) : (updateZN v s).Z = (v == 0#8) := rfl
@[simp] theorem updateZN_I (v : Byte) (s : State) : (updateZN v s).I = s.I := rfl
@[simp] theorem updateZN_D (v : Byte) (s : State) : (updateZN v s).D = s.D := rfl
@[simp] theorem updateZN_B (v : Byte) (s : State) : (updateZN v s).B = s.B := rfl
@[simp] theorem updateZN_V (v : Byte) (s : State) : (updateZN v s).V = s.V := rfl
@[simp] theorem updateZN_N (v : Byte) (s : State) : (updateZN v s).N = v.msb := rfl
@[simp] theorem updateZN_opcode (v : Byte) (s : State) : (updateZN v s).opcode = s.opcode := rfl
@[simp] theorem updateZN_cycles (v : Byte) (s : State) : (updateZN v s).cycles = s.cycles := rfl
@[simp] theorem updateZN_totalCycles (v : Byte) (s : State) : (updateZN v s).totalCycles = s.totalCycles := rfl
@[simp] theorem updateZN_nmiEdge (v : Byte) (s : State) : (updateZN v s).nmiEdge = s.nmiEdge := rfl
@[simp] theorem updateZN_status (v : Byte) (s : State) : (updateZN v s).status = s.status := rfl
@[simp] theorem updateZN_bus (v : Byte) (s : State) : (updateZN v s).bus = s.bus := rfl
@[simp] theorem updateZN_mem (v : Byte) (s : State) : (updateZN v s).mem = s.mem := rfl
@[simp] theorem updateZN_providerState (v : Byte) (s : State) : (updateZN v s).providerState = s.providerState := rfl
@[simp] theorem updateZN_cfg (v : Byte) (s : State) : (updateZN v s).cfg = s.cfg := rfl

/-! ## unpackStatus -/

@[simp] theorem unpackStatus_A (b : Byte) (s : State) : (unpackStatus b s).A = s.A := rfl
@[simp] theorem unpackStatus_X (b : Byte) (s : State) : (unpackStatus b s).X = s.X := rfl
@[simp] theorem unpackStatus_Y (b : Byte) (s : State) : (unpackStatus b s).Y = s.Y := rfl
@[simp] theorem unpackStatus_S (b : Byte) (s : State) : (unpackStatus b s).S = s.S := rfl
@[simp] theorem unpackStatus_PC (b : Byte) (s : State) : (unpackStatus b s).PC = s.PC := rfl
@[simp] theorem unpackStatus_C (b : Byte) (s : State) : (unpackStatus b s).C = b.getLsbD 0 := rfl
@[simp] theorem unpackStatus_Z (b : Byte) (s : State) : (unpackStatus b s).Z = b.getLsbD 1 := rfl
@[simp] theorem unpackStatus_I (b : Byte) (s : State) : (unpackStatus b s).I = b.getLsbD 2 := rfl
@[simp] theorem unpackStatus_D (b : Byte) (s : State) : (unpackStatus b s).D = b.getLsbD 3 := rfl
@[simp] theorem unpackStatus_B (b : Byte) (s : State) : (unpackStatus b s).B = b.getLsbD 4 := rfl
@[simp] theorem unpackStatus_V (b : Byte) (s : State) : (unpackStatus b s).V = b.getLsbD 6 := rfl
@[simp] theorem unpackStatus_N (b : Byte) (s : State) : (unpackStatus b s).N = b.getLsbD 7 := rfl
@[simp] theorem unpackStatus_opcode (b : Byte) (s : State) : (unpackStatus b s).opcode = s.opcode := rfl
@[simp] theorem unpackStatus_cycles (b : Byte) (s : State) : (unpackStatus b s).cycles = s.cycles := rfl
@[simp] theorem unpackStatus_totalCycles (b : Byte) (s : State) : (unpackStatus b s).totalCycles = s.totalCycles := rfl
@[simp] theorem unpackStatus_nmiEdge (b : Byte) (s : State) : (unpackStatus b s).nmiEdge = s.nmiEdge := rfl
@[simp] theorem unpackStatus_status (b : Byte) (s : State) : (unpackStatus b s).status = s.status := rfl
@[simp] theorem unpackStatus_bus (b : Byte) (s : State) : (unpackStatus b s).bus = s.bus := rfl
@[simp] theorem unpackStatus_mem (b : Byte) (s : State) : (unpackStatus b s).mem = s.mem := rfl
@[simp] theorem unpackStatus_providerState (b : Byte) (s : State) : (unpackStatus b s).providerState = s.providerState := rfl
@[simp] theorem unpackStatus_cfg (b : Byte) (s : State) : (unpackStatus b s).cfg = s.cfg := rfl

/-! ## readZeroPagePointer -/

@[simp] theorem readZeroPagePointer_A (z : Byte) (s : State) : (readZeroPagePointer z s).2.A = s.A :=
  (memRead_A (zeroPage (z + 1)) (memRead (zeroPage z) s).2).trans (memRead_A (zeroPage z) s)
@[simp] theorem readZeroPagePointer_X (z : Byte) (s : State) : (readZeroPagePointer z s).2.X = s.X :=
  (memRead_X (zeroPage (z + 1)) (memRead (zeroPage z) s).2).trans (memRead_X (zeroPage z) s)
@[simp] theorem readZeroPagePointer_Y (z : Byte) (s : State) : (readZeroPagePointer z s).2.Y = s.Y :=
  (memRead_Y (zeroPage (z + 1)) (memRead (zeroPage z) s).2).trans (memRead_Y (zeroPage z) s)
@[simp] theorem readZeroPagePointer_S (z : Byte) (s : State) : (readZeroPagePointer z s).2.S = s.S :=
  (memRead_S (zeroPage (z + 1)) (memRead (zeroPage z) s).2).trans (memRead_S (zeroPage z) s)
@[simp] theorem readZeroPagePointer_PC (z : Byte) (s : State) : (readZeroPagePointer z s).2.PC = s.PC :=
  (memRead_PC (zeroPage (z + 1)) (memRead (zeroPage z) s).2).trans (memRead_PC (zeroPage z) s)
@[simp] theorem readZeroPagePointer_C (z : Byte) (s : State) : (readZeroPagePointer z s).2.C = s.C :=
  (memRead_C (zeroPage (z + 1)) (memRead (zeroPage z) s).2).trans (memRead_C (zeroPage z) s)
@[simp] theorem readZeroPagePointer_Z (z : Byte) (s : State) : (readZeroPagePointer z s).2.Z = s.Z :=
  (memRead_Z (zeroPage (z + 1)) (memRead (zeroPage z) s).2).trans (memRead_Z (zeroPage z) s)
@[simp] theorem readZeroPagePointer_I (z : Byte) (s : State) : (readZeroPagePointer z s).2.I = s.I :=
  (memRead_I (zeroPage (z + 1)) (memRead (zeroPage z) s).2).trans (memRead_I (zeroPage z) s)
@[simp] theorem readZeroPagePointer_D (z : Byte) (s : State) : (readZeroPagePointer z s).2.D = s.D :=
  (memRead_D (zeroPage (z + 1)) (memRead (zeroPage z) s).2).trans (memRead_D (zeroPage z) s)
@[simp] theorem readZeroPagePointer_B (z : Byte) (s : State) : (readZeroPagePointer z s).2.B = s.B :=
  (memRead_B (zeroPage (z + 1)) (memRead (zeroPage z) s).2).trans (memRead_B (zeroPage z) s)
@[simp] theorem readZeroPagePointer_V (z : Byte) (s : State) : (readZeroPagePointer z s).2.V = s.V :=
  (memRead_V (zeroPage (z + 1)) (memRead (zeroPage z) s).2).trans (memRead_V (zeroPage z) s)
@[simp] theorem readZeroPagePointer_N (z : Byte) (s : State) : (readZeroPagePointer z s).2.N = s.N :=
  (memRead_N (zeroPage (z + 1)) (memRead (zeroPage z) s).2).trans (memRead_N (zeroPage z) s)
@[simp] theorem readZeroPagePointer_opcode (z : Byte) (s : State) : (readZeroPagePointer z s).2.opcode = s.opcode :=
  (memRead_opcode (zeroPage (z + 1)) (memRead (zeroPage z) s).2).trans (memRead_opcode (zeroPage z) s)
@[simp] theorem readZeroPagePointer_cycles (z : Byte) (s : State) : (readZeroPagePointer z s).2.cycles = s.cycles :=
  (memRead_cycles (zeroPage (z + 1)) (memRead (zeroPage z) s).2).trans (memRead_cycles (zeroPage z) s)
@[simp] theorem readZeroPagePointer_totalCycles (z : Byte) (s : State) : (readZeroPagePointer z s).2.totalCycles = s.totalCycles :=
  (memRead_totalCycles (zeroPage (z + 1)) (memRead (zeroPage z) s).2).trans (memRead_totalCycles (zeroPage z) s)
@[simp] theorem readZeroPagePointer_nmiEdge (z : Byte) (s : State) : (readZeroPagePointer z s).2.nmiEdge = s.nmiEdge :=
  (memRead_nmiEdge (zeroPage (z + 1)) (memRead (zeroPage z) s).2).trans (memRead_nmiEdge (zeroPage z) s)
@[simp] theorem readZeroPagePointer_status (z : Byte) (s : State) : (readZeroPagePointer z s).2.status = s.status :=
  (memRead_status (zeroPage (z + 1)) (memRead (zeroPage z) s).2).trans (memRead_status (zeroPage z) s)
@[simp] theorem readZeroPagePointer_bus (z : Byte) (s : State) : (readZeroPagePointer z s).2.bus = s.bus ++ [.read (zeroPage z)] ++ [.read (zeroPage (z + 1))] := rfl
@[simp] theorem readZeroPagePointer_mem (z : Byte) (s : State) : (readZeroPagePointer z s).2.mem = s.mem :=
  (memRead_mem (zeroPage (z + 1)) (memRead (zeroPage z) s).2).trans (memRead_mem (zeroPage z) s)
@[simp] theorem readZeroPagePointer_providerState (z : Byte) (s : State) : (readZeroPagePointer z s).2.providerState = (s.afterRead (zeroPage z)).readEffect (zeroPage (z + 1)) := rfl
@[simp] theorem readZeroPagePointer_cfg (z : Byte) (s : State) : (readZeroPagePointer z s).2.cfg = s.cfg :=
  (memRead_cfg (zeroPage (z + 1)) (memRead (zeroPage z) s).2).trans (memRead_cfg (zeroPage z) s)

/-! ## Values read -/

@[simp] theorem memRead_value (a : Addr) (s : State) : (memRead a s).1 = s.peek a := rfl
@[simp] theorem read16_value (a : Addr) (s : State) :
    (read16 a s).1 = wordOf ((s.afterRead a).peek (a + 1)) (s.peek a) := rfl
@[simp] theorem fetch8_value (s : State) : (fetch8 s).1 = s.peek s.PC := rfl
@[simp] theorem pull8_value (s : State) : (pull8 s).1 = s.peek (stackAddr (s.S + 1)) := rfl
@[simp] theorem readZeroPagePointer_value (z : Byte) (s : State) :
    (readZeroPagePointer z s).1 = wordOf ((s.afterRead (zeroPage z)).peek (zeroPage (z + 1))) (s.peek (zeroPage z)) := rfl

/-- A read depends on the memory, the provider's state and the parameters alone. -/
theorem peek_congr {s t : State} (hm : t.mem = s.mem) (hp : t.providerState = s.providerState) (hc : t.cfg = s.cfg)
    (a : Addr) : t.peek a = s.peek a := by
  simp only [State.peek, hm, hp, hc]

/-! ## Accesses, in order -/

@[simp] theorem after_nil (s : State) : s.after [] = s := rfl
@[simp] theorem after_cons (s : State) (x : BusAccess) (l : List BusAccess) :
    s.after (x :: l) = (s.access x).after l := rfl
@[simp] theorem access_read (s : State) (a : Addr) : s.access (.read a) = s.afterRead a := rfl
@[simp] theorem access_write (s : State) (a : Addr) (v : Byte) : s.access (.write a v) = s.poke a v := rfl

theorem after_append (s : State) (l m : List BusAccess) : s.after (l ++ m) = (s.after l).after m :=
  List.foldl_append

/-- Accesses change nothing but memory and the provider's state. -/
theorem after_frame (s : State) (l : List BusAccess) :
    s.after l = { s with mem := (s.after l).mem, providerState := (s.after l).providerState } := by
  induction l generalizing s with
  | nil => rfl
  | cons x l ih => cases x <;> exact ih _

/-- One access on the bus is the access and its record. -/
theorem memRead_eq (a : Addr) (s : State) :
    memRead a s = (s.peek a, { s.afterRead a with bus := s.bus ++ [.read a] }) := rfl

theorem memWrite_eq (a : Addr) (v : Byte) (s : State) :
    memWrite a v s = { s.poke a v with bus := s.bus ++ [.write a v] } := rfl

/-! ## The default provider -/

theorem peek_default {s : State} (h : s.cfg.provider = .default) (a : Addr) :
    s.peek a = if backed s.cfg a then s.mem.read a.toNat else s.cfg.fill := by
  simp only [State.peek, h]

/-- A read of the default provider has no effect (R64). -/
theorem afterRead_default {s : State} (h : s.cfg.provider = .default) (a : Addr) : s.afterRead a = s := by
  simp only [State.afterRead, State.readEffect, h]

theorem poke_default {s : State} (h : s.cfg.provider = .default) (a : Addr) (v : Byte) :
    s.poke a v = { s with mem := if backed s.cfg a then s.mem.write a.toNat v else s.mem } := by
  simp only [State.poke, State.storeEffect, State.writeEffect, h]

/-! ## An injected provider -/

theorem peek_injected {s : State} {n : Nat} (h : s.cfg.provider = .injected n) (a : Addr) :
    s.peek a = (injectedRead n s.providerState a).1 := by
  simp only [State.peek, h]

theorem afterRead_injected {s : State} {n : Nat} (h : s.cfg.provider = .injected n) (a : Addr) :
    s.afterRead a = { s with providerState := (injectedRead n s.providerState a).2 } := by
  simp only [State.afterRead, State.readEffect, h]

theorem poke_injected {s : State} {n : Nat} (h : s.cfg.provider = .injected n) (a : Addr) (v : Byte) :
    s.poke a v = { s with providerState := injectedWrite n s.providerState a v } := by
  simp only [State.poke, State.storeEffect, State.writeEffect, h]

end Sys2Proof.Machine
end

