-- ==== Sys2Proof/Laws/Ops.lean ====
section
/-! SUPPORT. What the shared operations of Machine/Ops.lean do, one lemma per operation and fact: reads after writes,
the fields that an operation leaves alone, and that every operation keeps a state well-formed. -/

namespace Sys2Proof.Machine

/-! ## Bytes and words -/

@[simp] theorem lowByte_wordOf (hi lo : Byte) : lowByte (wordOf hi lo) = lo := by
  apply BitVec.eq_of_toNat_eq
  have := hi.isLt; have := lo.isLt
  simp only [lowByte, wordOf, BitVec.toNat_ofNat]
  omega

@[simp] theorem highByte_wordOf (hi lo : Byte) : highByte (wordOf hi lo) = hi := by
  apply BitVec.eq_of_toNat_eq
  have := hi.isLt; have := lo.isLt
  simp only [highByte, wordOf, BitVec.toNat_ofNat]
  omega

@[simp] theorem wordOf_high_low (w : Addr) : wordOf (highByte w) (lowByte w) = w := by
  apply BitVec.eq_of_toNat_eq
  have := w.isLt
  simp only [lowByte, highByte, wordOf, BitVec.toNat_ofNat]
  omega

/-! ## Reads after writes -/

/-- With the default provider an address that is not written reads as before. -/
theorem peek_poke_other {s : State} (hp : s.cfg.provider = .default) {a b : Addr} (v : Byte) (h : b ≠ a) :
    (s.poke a v).peek b = s.peek b := by
  have hn : b.toNat ≠ a.toNat := fun e => h (BitVec.eq_of_toNat_eq e)
  by_cases ha : backed s.cfg a = true
  · simp only [poke_default hp, State.peek, hp, ha, if_true, Memory.read_write_other s.mem v hn]
  · rw [Bool.not_eq_true] at ha
    simp [poke_default hp, State.peek, ha]

/-- A backed address that is written reads as the value written (R64). -/
theorem peek_poke_same {s : State} (hp : s.cfg.provider = .default) (hw : s.mem.wf = true) {a : Addr} (v : Byte)
    (hb : backed s.cfg a = true) : (s.poke a v).peek a = v := by
  simp only [poke_default hp, State.peek, hp, hb, if_true]
  exact Memory.read_write_same hw a.toNat v

/-- A write outside the backed region does nothing (R63). -/
theorem poke_not_backed {s : State} (hp : s.cfg.provider = .default) {a : Addr} (v : Byte)
    (hb : backed s.cfg a = false) : s.poke a v = s := by
  simp [poke_default hp, hb]

/-- What every address reads as after a write. -/
theorem peek_poke {s : State} (hp : s.cfg.provider = .default) (hw : s.mem.wf = true) (a b : Addr) (v : Byte) :
    (s.poke a v).peek b = if a = b ∧ backed s.cfg b = true then v else s.peek b := by
  by_cases h : a = b
  · subst h
    by_cases hb : backed s.cfg a = true
    · simp [hb, peek_poke_same hp hw v hb]
    · have hb' : backed s.cfg a = false := by simpa using hb
      simp [hb', poke_not_backed hp v hb']
  · simp [h, peek_poke_other hp v (Ne.symm h)]

/-- The bus write is the provider's write, as far as memory goes. -/
@[simp] theorem memWrite_peek (s : State) (a b : Addr) (v : Byte) :
    (memWrite a v s).peek b = (s.poke a v).peek b := rfl

/-! ## Well-formed states -/

/-- Whether a state is well-formed depends on memory and parameters alone. -/
theorem wellFormed_congr {s t : State} (hm : t.mem = s.mem) (hc : t.cfg = s.cfg) :
    t.wellFormed = s.wellFormed := by
  simp only [State.wellFormed, State.memoryBacked, hm, hc]

theorem memory_wf {s : State} (h : s.wellFormed = true) : s.mem.wf = true := by
  simp only [State.wellFormed, Bool.and_eq_true] at h
  exact h.1.1

/-- The provider's write keeps a state well-formed. -/
theorem wellFormed_poke {s : State} (h : s.wellFormed = true) (a : Addr) (v : Byte) :
    (s.poke a v).wellFormed = true := by
  rcases hp : s.cfg.provider with _ | n
  rotate_left
  · exact (wellFormed_congr (by rw [poke_injected hp]) (by rw [poke_injected hp])).trans h
  by_cases hb : backed s.cfg a = true
  · have hb' := hb
    simp only [backed, Bool.and_eq_true, decide_eq_true_eq] at hb'
    simp only [State.wellFormed, State.memoryBacked, Bool.and_eq_true, List.all_eq_true,
      decide_eq_true_eq] at h ⊢
    refine ⟨⟨?_, ?_⟩, h.2⟩
    · simp only [poke_default hp, hb, if_true]
      exact Memory.wfFrom_write h.1.1 v (Nat.zero_le _) a.isLt
    · intro c hc
      simp only [poke_default hp, hb, if_true] at hc ⊢
      rcases Memory.mem_write hc with hc | hc
      · exact h.1.2 c hc
      · subst hc; exact hb'
  · rw [poke_not_backed hp v (by simpa using hb)]; exact h

theorem wellFormed_memWrite {s : State} (h : s.wellFormed = true) (a : Addr) (v : Byte) :
    (memWrite a v s).wellFormed = true :=
  (wellFormed_congr rfl rfl).trans (wellFormed_poke h a v)

theorem wellFormed_push8 {s : State} (h : s.wellFormed = true) (v : Byte) : (push8 v s).wellFormed = true :=
  (wellFormed_congr rfl rfl).trans (wellFormed_memWrite h (stackAddr s.S) v)

theorem wellFormed_push16 {s : State} (h : s.wellFormed = true) (w : Addr) : (push16 w s).wellFormed = true :=
  wellFormed_push8 (wellFormed_push8 h _) _

@[simp] theorem enterInterrupt_mem (vector : Addr) (pushed : Byte) (s : State) :
    (enterInterrupt vector pushed s).mem = (push8 pushed (push16 s.PC s)).mem := by
  simp only [enterInterrupt, read16_mem]

@[simp] theorem enterInterrupt_cfg (vector : Addr) (pushed : Byte) (s : State) :
    (enterInterrupt vector pushed s).cfg = s.cfg := by
  simp only [enterInterrupt, read16_cfg, push16, push8_cfg]

theorem wellFormed_enterInterrupt {s : State} (h : s.wellFormed = true) (vector : Addr) (pushed : Byte) :
    (enterInterrupt vector pushed s).wellFormed = true :=
  (wellFormed_congr (enterInterrupt_mem vector pushed s)
    ((enterInterrupt_cfg vector pushed s).trans (by simp only [push16, push8_cfg]))).trans
    (wellFormed_push8 (wellFormed_push16 h s.PC) pushed)

theorem wellFormed_serviceNmi {s : State} (h : s.wellFormed = true) : (serviceNmi s).wellFormed = true :=
  (wellFormed_congr (charge_mem ..) (charge_cfg ..)).trans
    (wellFormed_enterInterrupt ((wellFormed_congr (t := { s with nmiEdge := false }) rfl rfl).trans h) nmiVector _)

theorem wellFormed_returnFromInterrupt {s : State} (h : s.wellFormed = true) :
    (returnFromInterrupt s).wellFormed = true :=
  (wellFormed_congr (by simp only [returnFromInterrupt, pull16, pull8_mem, unpackStatus_mem])
    (by simp only [returnFromInterrupt, pull16, pull8_cfg, unpackStatus_cfg])).trans h

/-! ## Fetching -/

/-- The fetch of an instruction changes `PC`, `opcode`, the provider's state and the record of the bus only. -/
theorem fetchInstr_frame (s : State) :
    ∃ pc ps bus, (fetchInstr s).2 =
      { s with PC := pc, opcode := s.peek s.PC, providerState := ps, bus := bus } := by
  simp only [fetchInstr, fetchOpcode, fetch8, memRead]
  split <;> exact ⟨_, _, _, rfl⟩

/-! ## Stack and interrupts -/

/-- The slots of the stack page: `0x0100` plus the pointer (R28). -/
theorem stackAddr_toNat (p : Byte) : (stackAddr p).toNat = 0x0100 + p.toNat := by
  have h : stackAddr p = 0x0100#16 + p.setWidth 16 := by
    unfold stackAddr
    rw [BitVec.add_eq_or_of_and_eq_zero]
    ext k hk
    simp only [BitVec.getElem_and, BitVec.getElem_setWidth, BitVec.getElem_zero]
    interval_cases k <;> simp
  have := p.isLt
  rw [h, BitVec.toNat_add, BitVec.toNat_setWidth]
  simp only [BitVec.toNat_ofNat]
  omega

/-- Different pointers name different slots. -/
theorem stackAddr_injective {p q : Byte} (h : stackAddr p = stackAddr q) : p = q := by
  apply BitVec.eq_of_toNat_eq
  have := congrArg BitVec.toNat h
  simp only [stackAddr_toNat] at this
  omega

/-- A 16-bit push leaves everything but `S`, memory, the provider's state and the record of the bus. -/
theorem push16_frame (w : Addr) (s : State) :
    push16 w s = { s with
      S := s.S - 1 - 1, mem := (push16 w s).mem, providerState := (push16 w s).providerState
      bus := s.bus ++ [.write (stackAddr s.S) (highByte w)] ++ [.write (stackAddr (s.S - 1)) (lowByte w)] } := by
  simp only [push16, push8, memWrite]

/-- Entering an interrupt leaves everything but `S`, `I`, `PC`, memory, the provider's state and the record of the
bus. -/
theorem enterInterrupt_frame (vector : Addr) (pushed : Byte) (s : State) :
    ∃ pc bus mem ps, enterInterrupt vector pushed s =
      { s with S := s.S - 1 - 1 - 1, I := true, PC := pc, bus := bus, mem := mem, providerState := ps } := by
  simp only [enterInterrupt, read16, memRead, push16, push8, memWrite]
  exact ⟨_, _, _, _, rfl⟩

/-- Returning from an interrupt leaves everything but the flags, `S`, `PC`, the provider's state and the record of
the bus. -/
theorem returnFromInterrupt_frame (s : State) :
    ∃ C Z I D B V N pc ps bus, returnFromInterrupt s =
      { s with C := C, Z := Z, I := I, D := D, B := B, V := V, N := N,
               S := s.S + 1 + 1 + 1, PC := pc, providerState := ps, bus := bus } := by
  simp only [returnFromInterrupt, pull16, pull8, memRead, unpackStatus]
  exact ⟨_, _, _, _, _, _, _, _, _, _, rfl⟩

end Sys2Proof.Machine
end

