-- ==== Sys2Proof/Laws/Operands.lean ====
section
/-! SUPPORT. What the resolvers and the shapes of Machine/Operands.lean do: a resolver changes the provider's
state and the record of the bus alone, and each shape answers the next state that its lemma gives. -/

namespace Sys2Proof.Machine

/-- A resolver changes nothing but the provider's state and the record of the bus (R120, R65). -/
theorem resolve_frame (m : MemOperand) (s : State) :
    ∃ ps bus, (resolve m s).2 = { s with providerState := ps, bus := bus } := by
  cases m <;> exact ⟨_, _, rfl⟩

@[simp] theorem resolve_mem (m : MemOperand) (s : State) : (resolve m s).2.mem = s.mem := by cases m <;> rfl

@[simp] theorem resolve_cfg (m : MemOperand) (s : State) : (resolve m s).2.cfg = s.cfg := by cases m <;> rfl

/-- With the default provider a resolver changes the record of the bus alone (R64). -/
theorem resolve_default {s : State} (h : s.cfg.provider = .default) (m : MemOperand) :
    ∃ bus, (resolve m s).2 = { s with bus := bus } :=
  ⟨(resolve m s).2.bus, by cases m <;> simp [resolve, readZeroPagePointer, memRead, State.readEffect, h]⟩

theorem resolve_peek {s : State} (h : s.cfg.provider = .default) (m : MemOperand) (a : Addr) :
    (resolve m s).2.peek a = s.peek a := by
  obtain ⟨bus, hb⟩ := resolve_default h m
  rw [hb]; rfl

/-- A read on an immediate completes. -/
theorem readImm_next (f : Byte → State → State) (v : Byte) (base : Nat) (s : State) :
    readImm f v base s = .next (charge base .normal (f v s)) := rfl

/-- A read on a byte of memory completes: one read of the effective address, then `f`. -/
theorem readMem_next (f : Byte → State → State) (m : MemOperand) (base : Nat) (eligible : Bool) (s : State) :
    readMem f m base eligible s =
      .next (charge (base + (eligible && (resolve m s).1.crossed).toNat) .normal
        (f ((resolve m s).2.peek (resolve m s).1.addr)
          (memRead (resolve m s).1.addr (resolve m s).2).2)) := rfl

/-- A store completes: one write of the effective address. -/
theorem storeMem_next (value : State → Byte) (m : MemOperand) (base : Nat) (s : State) :
    storeMem value m base s =
      .next (charge base .normal (memWrite (resolve m s).1.addr (value s) (resolve m s).2)) := rfl

/-- A branch completes, taken or not (R244). -/
theorem branch_next (cond : Bool) (r : Byte) (s : State) :
    branch cond r s = .next (charge
      (if cond then 2 + (1 + (resolveRelative r s).crossed.toNat) else 2) .normal
      (if cond then { s with PC := (resolveRelative r s).addr } else s)) := by
  cases cond <;> rfl

end Sys2Proof.Machine
end

