-- ==== Sys2Proof/Laws/PerInstr.lean ====
section
/-! SUPPORT. The statement made of every instruction as syntax, one lemma per constructor of `Instr`. -/

namespace Sys2Proof.Laws

/-- The operand fits the operation (R137), the instruction's length is that of its encoding (R90), and the dispatch
table's entry of its opcode names its operation and its mode (R96). -/
def OperandShape.Statement (i : Instr) : Prop :=
  i.wellFormed = true ∧ (encode i).length = i.length ∧
    (dispatchEntry i.opcode).operation = i.operation ∧ (dispatchEntry i.opcode).mode = i.operand.mode

/-- What the dispatch table says of the opcode is enough: its entry, and a count of operand bytes. -/
theorem operandShape_of_entry {i : Instr} (op : Byte) (h : i.opcode = op) (hw : i.wellFormed = true)
    (hl : (encode i).length = 1 + i.operand.bytes.length)
    (he : (dispatchEntry op).operation = i.operation ∧ (dispatchEntry op).mode = i.operand.mode ∧
      operandCount op = i.operand.bytes.length) : OperandShape.Statement i := by
  subst h
  exact ⟨hw, by rw [hl, ← he.2.2, Instr.length], he.1, he.2.1⟩

theorem OperandShape.ldaImm (v : Byte) : OperandShape.Statement (.ldaImm v) := operandShape_of_entry 0xA9 rfl rfl rfl ⟨rfl, rfl, rfl⟩
theorem OperandShape.ldaZp (v : Byte) : OperandShape.Statement (.ldaZp v) := operandShape_of_entry 0xA5 rfl rfl rfl ⟨rfl, rfl, rfl⟩
theorem OperandShape.ldaZpx (v : Byte) : OperandShape.Statement (.ldaZpx v) := operandShape_of_entry 0xB5 rfl rfl rfl ⟨rfl, rfl, rfl⟩
theorem OperandShape.ldaAbs (v : Addr) : OperandShape.Statement (.ldaAbs v) := operandShape_of_entry 0xAD rfl rfl rfl ⟨rfl, rfl, rfl⟩
theorem OperandShape.ldaIzx (v : Byte) : OperandShape.Statement (.ldaIzx v) := operandShape_of_entry 0xA1 rfl rfl rfl ⟨rfl, rfl, rfl⟩
theorem OperandShape.ldaIzy (v : Byte) : OperandShape.Statement (.ldaIzy v) := operandShape_of_entry 0xB1 rfl rfl rfl ⟨rfl, rfl, rfl⟩
theorem OperandShape.ldaAbx (v : Addr) : OperandShape.Statement (.ldaAbx v) := operandShape_of_entry 0xBD rfl rfl rfl ⟨rfl, rfl, rfl⟩
theorem OperandShape.ldaAby (v : Addr) : OperandShape.Statement (.ldaAby v) := operandShape_of_entry 0xB9 rfl rfl rfl ⟨rfl, rfl, rfl⟩
theorem OperandShape.ldxImm (v : Byte) : OperandShape.Statement (.ldxImm v) := operandShape_of_entry 0xA2 rfl rfl rfl ⟨rfl, rfl, rfl⟩
theorem OperandShape.ldxZp (v : Byte) : OperandShape.Statement (.ldxZp v) := operandShape_of_entry 0xA6 rfl rfl rfl ⟨rfl, rfl, rfl⟩
theorem OperandShape.ldxZpy (v : Byte) : OperandShape.Statement (.ldxZpy v) := operandShape_of_entry 0xB6 rfl rfl rfl ⟨rfl, rfl, rfl⟩
theorem OperandShape.ldxAbs (v : Addr) : OperandShape.Statement (.ldxAbs v) := operandShape_of_entry 0xAE rfl rfl rfl ⟨rfl, rfl, rfl⟩
theorem OperandShape.ldxAby (v : Addr) : OperandShape.Statement (.ldxAby v) := operandShape_of_entry 0xBE rfl rfl rfl ⟨rfl, rfl, rfl⟩
theorem OperandShape.ldyImm (v : Byte) : OperandShape.Statement (.ldyImm v) := operandShape_of_entry 0xA0 rfl rfl rfl ⟨rfl, rfl, rfl⟩
theorem OperandShape.ldyZp (v : Byte) : OperandShape.Statement (.ldyZp v) := operandShape_of_entry 0xA4 rfl rfl rfl ⟨rfl, rfl, rfl⟩
theorem OperandShape.ldyZpx (v : Byte) : OperandShape.Statement (.ldyZpx v) := operandShape_of_entry 0xB4 rfl rfl rfl ⟨rfl, rfl, rfl⟩
theorem OperandShape.ldyAbs (v : Addr) : OperandShape.Statement (.ldyAbs v) := operandShape_of_entry 0xAC rfl rfl rfl ⟨rfl, rfl, rfl⟩
theorem OperandShape.ldyAbx (v : Addr) : OperandShape.Statement (.ldyAbx v) := operandShape_of_entry 0xBC rfl rfl rfl ⟨rfl, rfl, rfl⟩
theorem OperandShape.staZp (v : Byte) : OperandShape.Statement (.staZp v) := operandShape_of_entry 0x85 rfl rfl rfl ⟨rfl, rfl, rfl⟩
theorem OperandShape.staZpx (v : Byte) : OperandShape.Statement (.staZpx v) := operandShape_of_entry 0x95 rfl rfl rfl ⟨rfl, rfl, rfl⟩
theorem OperandShape.staAbs (v : Addr) : OperandShape.Statement (.staAbs v) := operandShape_of_entry 0x8D rfl rfl rfl ⟨rfl, rfl, rfl⟩
theorem OperandShape.staIzx (v : Byte) : OperandShape.Statement (.staIzx v) := operandShape_of_entry 0x81 rfl rfl rfl ⟨rfl, rfl, rfl⟩
theorem OperandShape.staIzy (v : Byte) : OperandShape.Statement (.staIzy v) := operandShape_of_entry 0x91 rfl rfl rfl ⟨rfl, rfl, rfl⟩
theorem OperandShape.staAbx (v : Addr) : OperandShape.Statement (.staAbx v) := operandShape_of_entry 0x9D rfl rfl rfl ⟨rfl, rfl, rfl⟩
theorem OperandShape.staAby (v : Addr) : OperandShape.Statement (.staAby v) := operandShape_of_entry 0x99 rfl rfl rfl ⟨rfl, rfl, rfl⟩
theorem OperandShape.stxZp (v : Byte) : OperandShape.Statement (.stxZp v) := operandShape_of_entry 0x86 rfl rfl rfl ⟨rfl, rfl, rfl⟩
theorem OperandShape.stxZpy (v : Byte) : OperandShape.Statement (.stxZpy v) := operandShape_of_entry 0x96 rfl rfl rfl ⟨rfl, rfl, rfl⟩
theorem OperandShape.stxAbs (v : Addr) : OperandShape.Statement (.stxAbs v) := operandShape_of_entry 0x8E rfl rfl rfl ⟨rfl, rfl, rfl⟩
theorem OperandShape.styZp (v : Byte) : OperandShape.Statement (.styZp v) := operandShape_of_entry 0x84 rfl rfl rfl ⟨rfl, rfl, rfl⟩
theorem OperandShape.styZpx (v : Byte) : OperandShape.Statement (.styZpx v) := operandShape_of_entry 0x94 rfl rfl rfl ⟨rfl, rfl, rfl⟩
theorem OperandShape.styAbs (v : Addr) : OperandShape.Statement (.styAbs v) := operandShape_of_entry 0x8C rfl rfl rfl ⟨rfl, rfl, rfl⟩
theorem OperandShape.tax : OperandShape.Statement .tax := operandShape_of_entry 0xAA rfl rfl rfl ⟨rfl, rfl, rfl⟩
theorem OperandShape.tay : OperandShape.Statement .tay := operandShape_of_entry 0xA8 rfl rfl rfl ⟨rfl, rfl, rfl⟩
theorem OperandShape.txa : OperandShape.Statement .txa := operandShape_of_entry 0x8A rfl rfl rfl ⟨rfl, rfl, rfl⟩
theorem OperandShape.tya : OperandShape.Statement .tya := operandShape_of_entry 0x98 rfl rfl rfl ⟨rfl, rfl, rfl⟩
theorem OperandShape.tsx : OperandShape.Statement .tsx := operandShape_of_entry 0xBA rfl rfl rfl ⟨rfl, rfl, rfl⟩
theorem OperandShape.txs : OperandShape.Statement .txs := operandShape_of_entry 0x9A rfl rfl rfl ⟨rfl, rfl, rfl⟩
theorem OperandShape.pha : OperandShape.Statement .pha := operandShape_of_entry 0x48 rfl rfl rfl ⟨rfl, rfl, rfl⟩
theorem OperandShape.php : OperandShape.Statement .php := operandShape_of_entry 0x08 rfl rfl rfl ⟨rfl, rfl, rfl⟩
theorem OperandShape.pla : OperandShape.Statement .pla := operandShape_of_entry 0x68 rfl rfl rfl ⟨rfl, rfl, rfl⟩
theorem OperandShape.plp : OperandShape.Statement .plp := operandShape_of_entry 0x28 rfl rfl rfl ⟨rfl, rfl, rfl⟩
theorem OperandShape.adcImm (v : Byte) : OperandShape.Statement (.adcImm v) := operandShape_of_entry 0x69 rfl rfl rfl ⟨rfl, rfl, rfl⟩
theorem OperandShape.adcZp (v : Byte) : OperandShape.Statement (.adcZp v) := operandShape_of_entry 0x65 rfl rfl rfl ⟨rfl, rfl, rfl⟩
theorem OperandShape.adcZpx (v : Byte) : OperandShape.Statement (.adcZpx v) := operandShape_of_entry 0x75 rfl rfl rfl ⟨rfl, rfl, rfl⟩
theorem OperandShape.adcAbs (v : Addr) : OperandShape.Statement (.adcAbs v) := operandShape_of_entry 0x6D rfl rfl rfl ⟨rfl, rfl, rfl⟩
theorem OperandShape.adcIzx (v : Byte) : OperandShape.Statement (.adcIzx v) := operandShape_of_entry 0x61 rfl rfl rfl ⟨rfl, rfl, rfl⟩
theorem OperandShape.adcIzy (v : Byte) : OperandShape.Statement (.adcIzy v) := operandShape_of_entry 0x71 rfl rfl rfl ⟨rfl, rfl, rfl⟩
theorem OperandShape.adcAbx (v : Addr) : OperandShape.Statement (.adcAbx v) := operandShape_of_entry 0x7D rfl rfl rfl ⟨rfl, rfl, rfl⟩
theorem OperandShape.adcAby (v : Addr) : OperandShape.Statement (.adcAby v) := operandShape_of_entry 0x79 rfl rfl rfl ⟨rfl, rfl, rfl⟩
theorem OperandShape.sbcImm (v : Byte) : OperandShape.Statement (.sbcImm v) := operandShape_of_entry 0xE9 rfl rfl rfl ⟨rfl, rfl, rfl⟩
theorem OperandShape.sbcZp (v : Byte) : OperandShape.Statement (.sbcZp v) := operandShape_of_entry 0xE5 rfl rfl rfl ⟨rfl, rfl, rfl⟩
theorem OperandShape.sbcZpx (v : Byte) : OperandShape.Statement (.sbcZpx v) := operandShape_of_entry 0xF5 rfl rfl rfl ⟨rfl, rfl, rfl⟩
theorem OperandShape.sbcAbs (v : Addr) : OperandShape.Statement (.sbcAbs v) := operandShape_of_entry 0xED rfl rfl rfl ⟨rfl, rfl, rfl⟩
theorem OperandShape.sbcIzx (v : Byte) : OperandShape.Statement (.sbcIzx v) := operandShape_of_entry 0xE1 rfl rfl rfl ⟨rfl, rfl, rfl⟩
theorem OperandShape.sbcIzy (v : Byte) : OperandShape.Statement (.sbcIzy v) := operandShape_of_entry 0xF1 rfl rfl rfl ⟨rfl, rfl, rfl⟩
theorem OperandShape.sbcAbx (v : Addr) : OperandShape.Statement (.sbcAbx v) := operandShape_of_entry 0xFD rfl rfl rfl ⟨rfl, rfl, rfl⟩
theorem OperandShape.sbcAby (v : Addr) : OperandShape.Statement (.sbcAby v) := operandShape_of_entry 0xF9 rfl rfl rfl ⟨rfl, rfl, rfl⟩
theorem OperandShape.cmpImm (v : Byte) : OperandShape.Statement (.cmpImm v) := operandShape_of_entry 0xC9 rfl rfl rfl ⟨rfl, rfl, rfl⟩
theorem OperandShape.cmpZp (v : Byte) : OperandShape.Statement (.cmpZp v) := operandShape_of_entry 0xC5 rfl rfl rfl ⟨rfl, rfl, rfl⟩
theorem OperandShape.cmpZpx (v : Byte) : OperandShape.Statement (.cmpZpx v) := operandShape_of_entry 0xD5 rfl rfl rfl ⟨rfl, rfl, rfl⟩
theorem OperandShape.cmpAbs (v : Addr) : OperandShape.Statement (.cmpAbs v) := operandShape_of_entry 0xCD rfl rfl rfl ⟨rfl, rfl, rfl⟩
theorem OperandShape.cmpIzx (v : Byte) : OperandShape.Statement (.cmpIzx v) := operandShape_of_entry 0xC1 rfl rfl rfl ⟨rfl, rfl, rfl⟩
theorem OperandShape.cmpIzy (v : Byte) : OperandShape.Statement (.cmpIzy v) := operandShape_of_entry 0xD1 rfl rfl rfl ⟨rfl, rfl, rfl⟩
theorem OperandShape.cmpAbx (v : Addr) : OperandShape.Statement (.cmpAbx v) := operandShape_of_entry 0xDD rfl rfl rfl ⟨rfl, rfl, rfl⟩
theorem OperandShape.cmpAby (v : Addr) : OperandShape.Statement (.cmpAby v) := operandShape_of_entry 0xD9 rfl rfl rfl ⟨rfl, rfl, rfl⟩
theorem OperandShape.cpxImm (v : Byte) : OperandShape.Statement (.cpxImm v) := operandShape_of_entry 0xE0 rfl rfl rfl ⟨rfl, rfl, rfl⟩
theorem OperandShape.cpxZp (v : Byte) : OperandShape.Statement (.cpxZp v) := operandShape_of_entry 0xE4 rfl rfl rfl ⟨rfl, rfl, rfl⟩
theorem OperandShape.cpxAbs (v : Addr) : OperandShape.Statement (.cpxAbs v) := operandShape_of_entry 0xEC rfl rfl rfl ⟨rfl, rfl, rfl⟩
theorem OperandShape.cpyImm (v : Byte) : OperandShape.Statement (.cpyImm v) := operandShape_of_entry 0xC0 rfl rfl rfl ⟨rfl, rfl, rfl⟩
theorem OperandShape.cpyZp (v : Byte) : OperandShape.Statement (.cpyZp v) := operandShape_of_entry 0xC4 rfl rfl rfl ⟨rfl, rfl, rfl⟩
theorem OperandShape.cpyAbs (v : Addr) : OperandShape.Statement (.cpyAbs v) := operandShape_of_entry 0xCC rfl rfl rfl ⟨rfl, rfl, rfl⟩
theorem OperandShape.andImm (v : Byte) : OperandShape.Statement (.andImm v) := operandShape_of_entry 0x29 rfl rfl rfl ⟨rfl, rfl, rfl⟩
theorem OperandShape.andZp (v : Byte) : OperandShape.Statement (.andZp v) := operandShape_of_entry 0x25 rfl rfl rfl ⟨rfl, rfl, rfl⟩
theorem OperandShape.andZpx (v : Byte) : OperandShape.Statement (.andZpx v) := operandShape_of_entry 0x35 rfl rfl rfl ⟨rfl, rfl, rfl⟩
theorem OperandShape.andAbs (v : Addr) : OperandShape.Statement (.andAbs v) := operandShape_of_entry 0x2D rfl rfl rfl ⟨rfl, rfl, rfl⟩
theorem OperandShape.andIzx (v : Byte) : OperandShape.Statement (.andIzx v) := operandShape_of_entry 0x21 rfl rfl rfl ⟨rfl, rfl, rfl⟩
theorem OperandShape.andIzy (v : Byte) : OperandShape.Statement (.andIzy v) := operandShape_of_entry 0x31 rfl rfl rfl ⟨rfl, rfl, rfl⟩
theorem OperandShape.andAbx (v : Addr) : OperandShape.Statement (.andAbx v) := operandShape_of_entry 0x3D rfl rfl rfl ⟨rfl, rfl, rfl⟩
theorem OperandShape.andAby (v : Addr) : OperandShape.Statement (.andAby v) := operandShape_of_entry 0x39 rfl rfl rfl ⟨rfl, rfl, rfl⟩
theorem OperandShape.oraImm (v : Byte) : OperandShape.Statement (.oraImm v) := operandShape_of_entry 0x09 rfl rfl rfl ⟨rfl, rfl, rfl⟩
theorem OperandShape.oraZp (v : Byte) : OperandShape.Statement (.oraZp v) := operandShape_of_entry 0x05 rfl rfl rfl ⟨rfl, rfl, rfl⟩
theorem OperandShape.oraZpx (v : Byte) : OperandShape.Statement (.oraZpx v) := operandShape_of_entry 0x15 rfl rfl rfl ⟨rfl, rfl, rfl⟩
theorem OperandShape.oraAbs (v : Addr) : OperandShape.Statement (.oraAbs v) := operandShape_of_entry 0x0D rfl rfl rfl ⟨rfl, rfl, rfl⟩
theorem OperandShape.oraIzx (v : Byte) : OperandShape.Statement (.oraIzx v) := operandShape_of_entry 0x01 rfl rfl rfl ⟨rfl, rfl, rfl⟩
theorem OperandShape.oraIzy (v : Byte) : OperandShape.Statement (.oraIzy v) := operandShape_of_entry 0x11 rfl rfl rfl ⟨rfl, rfl, rfl⟩
theorem OperandShape.oraAbx (v : Addr) : OperandShape.Statement (.oraAbx v) := operandShape_of_entry 0x1D rfl rfl rfl ⟨rfl, rfl, rfl⟩
theorem OperandShape.oraAby (v : Addr) : OperandShape.Statement (.oraAby v) := operandShape_of_entry 0x19 rfl rfl rfl ⟨rfl, rfl, rfl⟩
theorem OperandShape.eorImm (v : Byte) : OperandShape.Statement (.eorImm v) := operandShape_of_entry 0x49 rfl rfl rfl ⟨rfl, rfl, rfl⟩
theorem OperandShape.eorZp (v : Byte) : OperandShape.Statement (.eorZp v) := operandShape_of_entry 0x45 rfl rfl rfl ⟨rfl, rfl, rfl⟩
theorem OperandShape.eorZpx (v : Byte) : OperandShape.Statement (.eorZpx v) := operandShape_of_entry 0x55 rfl rfl rfl ⟨rfl, rfl, rfl⟩
theorem OperandShape.eorAbs (v : Addr) : OperandShape.Statement (.eorAbs v) := operandShape_of_entry 0x4D rfl rfl rfl ⟨rfl, rfl, rfl⟩
theorem OperandShape.eorIzx (v : Byte) : OperandShape.Statement (.eorIzx v) := operandShape_of_entry 0x41 rfl rfl rfl ⟨rfl, rfl, rfl⟩
theorem OperandShape.eorIzy (v : Byte) : OperandShape.Statement (.eorIzy v) := operandShape_of_entry 0x51 rfl rfl rfl ⟨rfl, rfl, rfl⟩
theorem OperandShape.eorAbx (v : Addr) : OperandShape.Statement (.eorAbx v) := operandShape_of_entry 0x5D rfl rfl rfl ⟨rfl, rfl, rfl⟩
theorem OperandShape.eorAby (v : Addr) : OperandShape.Statement (.eorAby v) := operandShape_of_entry 0x59 rfl rfl rfl ⟨rfl, rfl, rfl⟩
theorem OperandShape.bitZp (v : Byte) : OperandShape.Statement (.bitZp v) := operandShape_of_entry 0x24 rfl rfl rfl ⟨rfl, rfl, rfl⟩
theorem OperandShape.bitAbs (v : Addr) : OperandShape.Statement (.bitAbs v) := operandShape_of_entry 0x2C rfl rfl rfl ⟨rfl, rfl, rfl⟩
theorem OperandShape.incZp (v : Byte) : OperandShape.Statement (.incZp v) := operandShape_of_entry 0xE6 rfl rfl rfl ⟨rfl, rfl, rfl⟩
theorem OperandShape.incZpx (v : Byte) : OperandShape.Statement (.incZpx v) := operandShape_of_entry 0xF6 rfl rfl rfl ⟨rfl, rfl, rfl⟩
theorem OperandShape.incAbs (v : Addr) : OperandShape.Statement (.incAbs v) := operandShape_of_entry 0xEE rfl rfl rfl ⟨rfl, rfl, rfl⟩
theorem OperandShape.incAbx (v : Addr) : OperandShape.Statement (.incAbx v) := operandShape_of_entry 0xFE rfl rfl rfl ⟨rfl, rfl, rfl⟩
theorem OperandShape.decZp (v : Byte) : OperandShape.Statement (.decZp v) := operandShape_of_entry 0xC6 rfl rfl rfl ⟨rfl, rfl, rfl⟩
theorem OperandShape.decZpx (v : Byte) : OperandShape.Statement (.decZpx v) := operandShape_of_entry 0xD6 rfl rfl rfl ⟨rfl, rfl, rfl⟩
theorem OperandShape.decAbs (v : Addr) : OperandShape.Statement (.decAbs v) := operandShape_of_entry 0xCE rfl rfl rfl ⟨rfl, rfl, rfl⟩
theorem OperandShape.decAbx (v : Addr) : OperandShape.Statement (.decAbx v) := operandShape_of_entry 0xDE rfl rfl rfl ⟨rfl, rfl, rfl⟩
theorem OperandShape.inx : OperandShape.Statement .inx := operandShape_of_entry 0xE8 rfl rfl rfl ⟨rfl, rfl, rfl⟩
theorem OperandShape.iny : OperandShape.Statement .iny := operandShape_of_entry 0xC8 rfl rfl rfl ⟨rfl, rfl, rfl⟩
theorem OperandShape.dex : OperandShape.Statement .dex := operandShape_of_entry 0xCA rfl rfl rfl ⟨rfl, rfl, rfl⟩
theorem OperandShape.dey : OperandShape.Statement .dey := operandShape_of_entry 0x88 rfl rfl rfl ⟨rfl, rfl, rfl⟩
theorem OperandShape.aslAcc : OperandShape.Statement .aslAcc := operandShape_of_entry 0x0A rfl rfl rfl ⟨rfl, rfl, rfl⟩
theorem OperandShape.aslZp (v : Byte) : OperandShape.Statement (.aslZp v) := operandShape_of_entry 0x06 rfl rfl rfl ⟨rfl, rfl, rfl⟩
theorem OperandShape.aslZpx (v : Byte) : OperandShape.Statement (.aslZpx v) := operandShape_of_entry 0x16 rfl rfl rfl ⟨rfl, rfl, rfl⟩
theorem OperandShape.aslAbs (v : Addr) : OperandShape.Statement (.aslAbs v) := operandShape_of_entry 0x0E rfl rfl rfl ⟨rfl, rfl, rfl⟩
theorem OperandShape.aslAbx (v : Addr) : OperandShape.Statement (.aslAbx v) := operandShape_of_entry 0x1E rfl rfl rfl ⟨rfl, rfl, rfl⟩
theorem OperandShape.lsrAcc : OperandShape.Statement .lsrAcc := operandShape_of_entry 0x4A rfl rfl rfl ⟨rfl, rfl, rfl⟩
theorem OperandShape.lsrZp (v : Byte) : OperandShape.Statement (.lsrZp v) := operandShape_of_entry 0x46 rfl rfl rfl ⟨rfl, rfl, rfl⟩
theorem OperandShape.lsrZpx (v : Byte) : OperandShape.Statement (.lsrZpx v) := operandShape_of_entry 0x56 rfl rfl rfl ⟨rfl, rfl, rfl⟩
theorem OperandShape.lsrAbs (v : Addr) : OperandShape.Statement (.lsrAbs v) := operandShape_of_entry 0x4E rfl rfl rfl ⟨rfl, rfl, rfl⟩
theorem OperandShape.lsrAbx (v : Addr) : OperandShape.Statement (.lsrAbx v) := operandShape_of_entry 0x5E rfl rfl rfl ⟨rfl, rfl, rfl⟩
theorem OperandShape.rolAcc : OperandShape.Statement .rolAcc := operandShape_of_entry 0x2A rfl rfl rfl ⟨rfl, rfl, rfl⟩
theorem OperandShape.rolZp (v : Byte) : OperandShape.Statement (.rolZp v) := operandShape_of_entry 0x26 rfl rfl rfl ⟨rfl, rfl, rfl⟩
theorem OperandShape.rolZpx (v : Byte) : OperandShape.Statement (.rolZpx v) := operandShape_of_entry 0x36 rfl rfl rfl ⟨rfl, rfl, rfl⟩
theorem OperandShape.rolAbs (v : Addr) : OperandShape.Statement (.rolAbs v) := operandShape_of_entry 0x2E rfl rfl rfl ⟨rfl, rfl, rfl⟩
theorem OperandShape.rolAbx (v : Addr) : OperandShape.Statement (.rolAbx v) := operandShape_of_entry 0x3E rfl rfl rfl ⟨rfl, rfl, rfl⟩
theorem OperandShape.rorAcc : OperandShape.Statement .rorAcc := operandShape_of_entry 0x6A rfl rfl rfl ⟨rfl, rfl, rfl⟩
theorem OperandShape.rorZp (v : Byte) : OperandShape.Statement (.rorZp v) := operandShape_of_entry 0x66 rfl rfl rfl ⟨rfl, rfl, rfl⟩
theorem OperandShape.rorZpx (v : Byte) : OperandShape.Statement (.rorZpx v) := operandShape_of_entry 0x76 rfl rfl rfl ⟨rfl, rfl, rfl⟩
theorem OperandShape.rorAbs (v : Addr) : OperandShape.Statement (.rorAbs v) := operandShape_of_entry 0x6E rfl rfl rfl ⟨rfl, rfl, rfl⟩
theorem OperandShape.rorAbx (v : Addr) : OperandShape.Statement (.rorAbx v) := operandShape_of_entry 0x7E rfl rfl rfl ⟨rfl, rfl, rfl⟩
theorem OperandShape.jmpAbs (v : Addr) : OperandShape.Statement (.jmpAbs v) := operandShape_of_entry 0x4C rfl rfl rfl ⟨rfl, rfl, rfl⟩
theorem OperandShape.jmpInd (v : Addr) : OperandShape.Statement (.jmpInd v) := operandShape_of_entry 0x6C rfl rfl rfl ⟨rfl, rfl, rfl⟩
theorem OperandShape.jsr (v : Addr) : OperandShape.Statement (.jsr v) := operandShape_of_entry 0x20 rfl rfl rfl ⟨rfl, rfl, rfl⟩
theorem OperandShape.rts : OperandShape.Statement .rts := operandShape_of_entry 0x60 rfl rfl rfl ⟨rfl, rfl, rfl⟩
theorem OperandShape.bpl (v : Byte) : OperandShape.Statement (.bpl v) := operandShape_of_entry 0x10 rfl rfl rfl ⟨rfl, rfl, rfl⟩
theorem OperandShape.bmi (v : Byte) : OperandShape.Statement (.bmi v) := operandShape_of_entry 0x30 rfl rfl rfl ⟨rfl, rfl, rfl⟩
theorem OperandShape.bvc (v : Byte) : OperandShape.Statement (.bvc v) := operandShape_of_entry 0x50 rfl rfl rfl ⟨rfl, rfl, rfl⟩
theorem OperandShape.bvs (v : Byte) : OperandShape.Statement (.bvs v) := operandShape_of_entry 0x70 rfl rfl rfl ⟨rfl, rfl, rfl⟩
theorem OperandShape.bcc (v : Byte) : OperandShape.Statement (.bcc v) := operandShape_of_entry 0x90 rfl rfl rfl ⟨rfl, rfl, rfl⟩
theorem OperandShape.bcs (v : Byte) : OperandShape.Statement (.bcs v) := operandShape_of_entry 0xB0 rfl rfl rfl ⟨rfl, rfl, rfl⟩
theorem OperandShape.bne (v : Byte) : OperandShape.Statement (.bne v) := operandShape_of_entry 0xD0 rfl rfl rfl ⟨rfl, rfl, rfl⟩
theorem OperandShape.beq (v : Byte) : OperandShape.Statement (.beq v) := operandShape_of_entry 0xF0 rfl rfl rfl ⟨rfl, rfl, rfl⟩
theorem OperandShape.clc : OperandShape.Statement .clc := operandShape_of_entry 0x18 rfl rfl rfl ⟨rfl, rfl, rfl⟩
theorem OperandShape.sec : OperandShape.Statement .sec := operandShape_of_entry 0x38 rfl rfl rfl ⟨rfl, rfl, rfl⟩
theorem OperandShape.cli : OperandShape.Statement .cli := operandShape_of_entry 0x58 rfl rfl rfl ⟨rfl, rfl, rfl⟩
theorem OperandShape.sei : OperandShape.Statement .sei := operandShape_of_entry 0x78 rfl rfl rfl ⟨rfl, rfl, rfl⟩
theorem OperandShape.cld : OperandShape.Statement .cld := operandShape_of_entry 0xD8 rfl rfl rfl ⟨rfl, rfl, rfl⟩
theorem OperandShape.sed : OperandShape.Statement .sed := operandShape_of_entry 0xF8 rfl rfl rfl ⟨rfl, rfl, rfl⟩
theorem OperandShape.clv : OperandShape.Statement .clv := operandShape_of_entry 0xB8 rfl rfl rfl ⟨rfl, rfl, rfl⟩
theorem OperandShape.nop : OperandShape.Statement .nop := operandShape_of_entry 0xEA rfl rfl rfl ⟨rfl, rfl, rfl⟩
theorem OperandShape.laxZp (v : Byte) : OperandShape.Statement (.laxZp v) := operandShape_of_entry 0xA7 rfl rfl rfl ⟨rfl, rfl, rfl⟩
theorem OperandShape.laxZpy (v : Byte) : OperandShape.Statement (.laxZpy v) := operandShape_of_entry 0xB7 rfl rfl rfl ⟨rfl, rfl, rfl⟩
theorem OperandShape.laxAbs (v : Addr) : OperandShape.Statement (.laxAbs v) := operandShape_of_entry 0xAF rfl rfl rfl ⟨rfl, rfl, rfl⟩
theorem OperandShape.laxIzx (v : Byte) : OperandShape.Statement (.laxIzx v) := operandShape_of_entry 0xA3 rfl rfl rfl ⟨rfl, rfl, rfl⟩
theorem OperandShape.laxIzy (v : Byte) : OperandShape.Statement (.laxIzy v) := operandShape_of_entry 0xB3 rfl rfl rfl ⟨rfl, rfl, rfl⟩
theorem OperandShape.laxAby (v : Addr) : OperandShape.Statement (.laxAby v) := operandShape_of_entry 0xBF rfl rfl rfl ⟨rfl, rfl, rfl⟩
theorem OperandShape.saxZp (v : Byte) : OperandShape.Statement (.saxZp v) := operandShape_of_entry 0x87 rfl rfl rfl ⟨rfl, rfl, rfl⟩
theorem OperandShape.saxZpy (v : Byte) : OperandShape.Statement (.saxZpy v) := operandShape_of_entry 0x97 rfl rfl rfl ⟨rfl, rfl, rfl⟩
theorem OperandShape.saxAbs (v : Addr) : OperandShape.Statement (.saxAbs v) := operandShape_of_entry 0x8F rfl rfl rfl ⟨rfl, rfl, rfl⟩
theorem OperandShape.saxIzx (v : Byte) : OperandShape.Statement (.saxIzx v) := operandShape_of_entry 0x83 rfl rfl rfl ⟨rfl, rfl, rfl⟩
theorem OperandShape.sloZp (v : Byte) : OperandShape.Statement (.sloZp v) := operandShape_of_entry 0x07 rfl rfl rfl ⟨rfl, rfl, rfl⟩
theorem OperandShape.sloZpx (v : Byte) : OperandShape.Statement (.sloZpx v) := operandShape_of_entry 0x17 rfl rfl rfl ⟨rfl, rfl, rfl⟩
theorem OperandShape.sloAbs (v : Addr) : OperandShape.Statement (.sloAbs v) := operandShape_of_entry 0x0F rfl rfl rfl ⟨rfl, rfl, rfl⟩
theorem OperandShape.sloIzx (v : Byte) : OperandShape.Statement (.sloIzx v) := operandShape_of_entry 0x03 rfl rfl rfl ⟨rfl, rfl, rfl⟩
theorem OperandShape.sloIzy (v : Byte) : OperandShape.Statement (.sloIzy v) := operandShape_of_entry 0x13 rfl rfl rfl ⟨rfl, rfl, rfl⟩
theorem OperandShape.sloAbx (v : Addr) : OperandShape.Statement (.sloAbx v) := operandShape_of_entry 0x1F rfl rfl rfl ⟨rfl, rfl, rfl⟩
theorem OperandShape.sloAby (v : Addr) : OperandShape.Statement (.sloAby v) := operandShape_of_entry 0x1B rfl rfl rfl ⟨rfl, rfl, rfl⟩
theorem OperandShape.rlaZp (v : Byte) : OperandShape.Statement (.rlaZp v) := operandShape_of_entry 0x27 rfl rfl rfl ⟨rfl, rfl, rfl⟩
theorem OperandShape.rlaZpx (v : Byte) : OperandShape.Statement (.rlaZpx v) := operandShape_of_entry 0x37 rfl rfl rfl ⟨rfl, rfl, rfl⟩
theorem OperandShape.rlaAbs (v : Addr) : OperandShape.Statement (.rlaAbs v) := operandShape_of_entry 0x2F rfl rfl rfl ⟨rfl, rfl, rfl⟩
theorem OperandShape.rlaIzx (v : Byte) : OperandShape.Statement (.rlaIzx v) := operandShape_of_entry 0x23 rfl rfl rfl ⟨rfl, rfl, rfl⟩
theorem OperandShape.rlaIzy (v : Byte) : OperandShape.Statement (.rlaIzy v) := operandShape_of_entry 0x33 rfl rfl rfl ⟨rfl, rfl, rfl⟩
theorem OperandShape.rlaAbx (v : Addr) : OperandShape.Statement (.rlaAbx v) := operandShape_of_entry 0x3F rfl rfl rfl ⟨rfl, rfl, rfl⟩
theorem OperandShape.rlaAby (v : Addr) : OperandShape.Statement (.rlaAby v) := operandShape_of_entry 0x3B rfl rfl rfl ⟨rfl, rfl, rfl⟩
theorem OperandShape.sreZp (v : Byte) : OperandShape.Statement (.sreZp v) := operandShape_of_entry 0x47 rfl rfl rfl ⟨rfl, rfl, rfl⟩
theorem OperandShape.sreZpx (v : Byte) : OperandShape.Statement (.sreZpx v) := operandShape_of_entry 0x57 rfl rfl rfl ⟨rfl, rfl, rfl⟩
theorem OperandShape.sreAbs (v : Addr) : OperandShape.Statement (.sreAbs v) := operandShape_of_entry 0x4F rfl rfl rfl ⟨rfl, rfl, rfl⟩
theorem OperandShape.sreIzx (v : Byte) : OperandShape.Statement (.sreIzx v) := operandShape_of_entry 0x43 rfl rfl rfl ⟨rfl, rfl, rfl⟩
theorem OperandShape.sreIzy (v : Byte) : OperandShape.Statement (.sreIzy v) := operandShape_of_entry 0x53 rfl rfl rfl ⟨rfl, rfl, rfl⟩
theorem OperandShape.sreAbx (v : Addr) : OperandShape.Statement (.sreAbx v) := operandShape_of_entry 0x5F rfl rfl rfl ⟨rfl, rfl, rfl⟩
theorem OperandShape.sreAby (v : Addr) : OperandShape.Statement (.sreAby v) := operandShape_of_entry 0x5B rfl rfl rfl ⟨rfl, rfl, rfl⟩
theorem OperandShape.rraZp (v : Byte) : OperandShape.Statement (.rraZp v) := operandShape_of_entry 0x67 rfl rfl rfl ⟨rfl, rfl, rfl⟩
theorem OperandShape.rraZpx (v : Byte) : OperandShape.Statement (.rraZpx v) := operandShape_of_entry 0x77 rfl rfl rfl ⟨rfl, rfl, rfl⟩
theorem OperandShape.rraAbs (v : Addr) : OperandShape.Statement (.rraAbs v) := operandShape_of_entry 0x6F rfl rfl rfl ⟨rfl, rfl, rfl⟩
theorem OperandShape.rraIzx (v : Byte) : OperandShape.Statement (.rraIzx v) := operandShape_of_entry 0x63 rfl rfl rfl ⟨rfl, rfl, rfl⟩
theorem OperandShape.rraIzy (v : Byte) : OperandShape.Statement (.rraIzy v) := operandShape_of_entry 0x73 rfl rfl rfl ⟨rfl, rfl, rfl⟩
theorem OperandShape.rraAbx (v : Addr) : OperandShape.Statement (.rraAbx v) := operandShape_of_entry 0x7F rfl rfl rfl ⟨rfl, rfl, rfl⟩
theorem OperandShape.rraAby (v : Addr) : OperandShape.Statement (.rraAby v) := operandShape_of_entry 0x7B rfl rfl rfl ⟨rfl, rfl, rfl⟩
theorem OperandShape.dcpZp (v : Byte) : OperandShape.Statement (.dcpZp v) := operandShape_of_entry 0xC7 rfl rfl rfl ⟨rfl, rfl, rfl⟩
theorem OperandShape.dcpZpx (v : Byte) : OperandShape.Statement (.dcpZpx v) := operandShape_of_entry 0xD7 rfl rfl rfl ⟨rfl, rfl, rfl⟩
theorem OperandShape.dcpAbs (v : Addr) : OperandShape.Statement (.dcpAbs v) := operandShape_of_entry 0xCF rfl rfl rfl ⟨rfl, rfl, rfl⟩
theorem OperandShape.dcpIzx (v : Byte) : OperandShape.Statement (.dcpIzx v) := operandShape_of_entry 0xC3 rfl rfl rfl ⟨rfl, rfl, rfl⟩
theorem OperandShape.dcpIzy (v : Byte) : OperandShape.Statement (.dcpIzy v) := operandShape_of_entry 0xD3 rfl rfl rfl ⟨rfl, rfl, rfl⟩
theorem OperandShape.dcpAbx (v : Addr) : OperandShape.Statement (.dcpAbx v) := operandShape_of_entry 0xDF rfl rfl rfl ⟨rfl, rfl, rfl⟩
theorem OperandShape.dcpAby (v : Addr) : OperandShape.Statement (.dcpAby v) := operandShape_of_entry 0xDB rfl rfl rfl ⟨rfl, rfl, rfl⟩
theorem OperandShape.iscZp (v : Byte) : OperandShape.Statement (.iscZp v) := operandShape_of_entry 0xE7 rfl rfl rfl ⟨rfl, rfl, rfl⟩
theorem OperandShape.iscZpx (v : Byte) : OperandShape.Statement (.iscZpx v) := operandShape_of_entry 0xF7 rfl rfl rfl ⟨rfl, rfl, rfl⟩
theorem OperandShape.iscAbs (v : Addr) : OperandShape.Statement (.iscAbs v) := operandShape_of_entry 0xEF rfl rfl rfl ⟨rfl, rfl, rfl⟩
theorem OperandShape.iscIzx (v : Byte) : OperandShape.Statement (.iscIzx v) := operandShape_of_entry 0xE3 rfl rfl rfl ⟨rfl, rfl, rfl⟩
theorem OperandShape.iscIzy (v : Byte) : OperandShape.Statement (.iscIzy v) := operandShape_of_entry 0xF3 rfl rfl rfl ⟨rfl, rfl, rfl⟩
theorem OperandShape.iscAbx (v : Addr) : OperandShape.Statement (.iscAbx v) := operandShape_of_entry 0xFF rfl rfl rfl ⟨rfl, rfl, rfl⟩
theorem OperandShape.iscAby (v : Addr) : OperandShape.Statement (.iscAby v) := operandShape_of_entry 0xFB rfl rfl rfl ⟨rfl, rfl, rfl⟩
theorem OperandShape.ancImm0B (v : Byte) : OperandShape.Statement (.ancImm0B v) := operandShape_of_entry 0x0B rfl rfl rfl ⟨rfl, rfl, rfl⟩
theorem OperandShape.ancImm2B (v : Byte) : OperandShape.Statement (.ancImm2B v) := operandShape_of_entry 0x2B rfl rfl rfl ⟨rfl, rfl, rfl⟩
theorem OperandShape.alrImm (v : Byte) : OperandShape.Statement (.alrImm v) := operandShape_of_entry 0x4B rfl rfl rfl ⟨rfl, rfl, rfl⟩
theorem OperandShape.arrImm (v : Byte) : OperandShape.Statement (.arrImm v) := operandShape_of_entry 0x6B rfl rfl rfl ⟨rfl, rfl, rfl⟩
theorem OperandShape.xaaImm (v : Byte) : OperandShape.Statement (.xaaImm v) := operandShape_of_entry 0x8B rfl rfl rfl ⟨rfl, rfl, rfl⟩
theorem OperandShape.axsImm (v : Byte) : OperandShape.Statement (.axsImm v) := operandShape_of_entry 0xCB rfl rfl rfl ⟨rfl, rfl, rfl⟩
theorem OperandShape.shxAby (v : Addr) : OperandShape.Statement (.shxAby v) := operandShape_of_entry 0x9E rfl rfl rfl ⟨rfl, rfl, rfl⟩
theorem OperandShape.shyAbx (v : Addr) : OperandShape.Statement (.shyAbx v) := operandShape_of_entry 0x9C rfl rfl rfl ⟨rfl, rfl, rfl⟩
theorem OperandShape.nopImp1A : OperandShape.Statement .nopImp1A := operandShape_of_entry 0x1A rfl rfl rfl ⟨rfl, rfl, rfl⟩
theorem OperandShape.nopImp3A : OperandShape.Statement .nopImp3A := operandShape_of_entry 0x3A rfl rfl rfl ⟨rfl, rfl, rfl⟩
theorem OperandShape.nopImp5A : OperandShape.Statement .nopImp5A := operandShape_of_entry 0x5A rfl rfl rfl ⟨rfl, rfl, rfl⟩
theorem OperandShape.nopImp7A : OperandShape.Statement .nopImp7A := operandShape_of_entry 0x7A rfl rfl rfl ⟨rfl, rfl, rfl⟩
theorem OperandShape.nopImpDA : OperandShape.Statement .nopImpDA := operandShape_of_entry 0xDA rfl rfl rfl ⟨rfl, rfl, rfl⟩
theorem OperandShape.nopImpFA : OperandShape.Statement .nopImpFA := operandShape_of_entry 0xFA rfl rfl rfl ⟨rfl, rfl, rfl⟩
theorem OperandShape.nopImm80 (v : Byte) : OperandShape.Statement (.nopImm80 v) := operandShape_of_entry 0x80 rfl rfl rfl ⟨rfl, rfl, rfl⟩
theorem OperandShape.nopImm82 (v : Byte) : OperandShape.Statement (.nopImm82 v) := operandShape_of_entry 0x82 rfl rfl rfl ⟨rfl, rfl, rfl⟩
theorem OperandShape.nopImm89 (v : Byte) : OperandShape.Statement (.nopImm89 v) := operandShape_of_entry 0x89 rfl rfl rfl ⟨rfl, rfl, rfl⟩
theorem OperandShape.nopImmC2 (v : Byte) : OperandShape.Statement (.nopImmC2 v) := operandShape_of_entry 0xC2 rfl rfl rfl ⟨rfl, rfl, rfl⟩
theorem OperandShape.nopImmE2 (v : Byte) : OperandShape.Statement (.nopImmE2 v) := operandShape_of_entry 0xE2 rfl rfl rfl ⟨rfl, rfl, rfl⟩
theorem OperandShape.nopZp04 (v : Byte) : OperandShape.Statement (.nopZp04 v) := operandShape_of_entry 0x04 rfl rfl rfl ⟨rfl, rfl, rfl⟩
theorem OperandShape.nopZp44 (v : Byte) : OperandShape.Statement (.nopZp44 v) := operandShape_of_entry 0x44 rfl rfl rfl ⟨rfl, rfl, rfl⟩
theorem OperandShape.nopZp64 (v : Byte) : OperandShape.Statement (.nopZp64 v) := operandShape_of_entry 0x64 rfl rfl rfl ⟨rfl, rfl, rfl⟩
theorem OperandShape.nopZpx14 (v : Byte) : OperandShape.Statement (.nopZpx14 v) := operandShape_of_entry 0x14 rfl rfl rfl ⟨rfl, rfl, rfl⟩
theorem OperandShape.nopZpx34 (v : Byte) : OperandShape.Statement (.nopZpx34 v) := operandShape_of_entry 0x34 rfl rfl rfl ⟨rfl, rfl, rfl⟩
theorem OperandShape.nopZpx54 (v : Byte) : OperandShape.Statement (.nopZpx54 v) := operandShape_of_entry 0x54 rfl rfl rfl ⟨rfl, rfl, rfl⟩
theorem OperandShape.nopZpx74 (v : Byte) : OperandShape.Statement (.nopZpx74 v) := operandShape_of_entry 0x74 rfl rfl rfl ⟨rfl, rfl, rfl⟩
theorem OperandShape.nopZpxD4 (v : Byte) : OperandShape.Statement (.nopZpxD4 v) := operandShape_of_entry 0xD4 rfl rfl rfl ⟨rfl, rfl, rfl⟩
theorem OperandShape.nopZpxF4 (v : Byte) : OperandShape.Statement (.nopZpxF4 v) := operandShape_of_entry 0xF4 rfl rfl rfl ⟨rfl, rfl, rfl⟩
theorem OperandShape.nopAbs0C (v : Addr) : OperandShape.Statement (.nopAbs0C v) := operandShape_of_entry 0x0C rfl rfl rfl ⟨rfl, rfl, rfl⟩
theorem OperandShape.nopAbx1C (v : Addr) : OperandShape.Statement (.nopAbx1C v) := operandShape_of_entry 0x1C rfl rfl rfl ⟨rfl, rfl, rfl⟩
theorem OperandShape.nopAbx3C (v : Addr) : OperandShape.Statement (.nopAbx3C v) := operandShape_of_entry 0x3C rfl rfl rfl ⟨rfl, rfl, rfl⟩
theorem OperandShape.nopAbx5C (v : Addr) : OperandShape.Statement (.nopAbx5C v) := operandShape_of_entry 0x5C rfl rfl rfl ⟨rfl, rfl, rfl⟩
theorem OperandShape.nopAbx7C (v : Addr) : OperandShape.Statement (.nopAbx7C v) := operandShape_of_entry 0x7C rfl rfl rfl ⟨rfl, rfl, rfl⟩
theorem OperandShape.nopAbxDC (v : Addr) : OperandShape.Statement (.nopAbxDC v) := operandShape_of_entry 0xDC rfl rfl rfl ⟨rfl, rfl, rfl⟩
theorem OperandShape.nopAbxFC (v : Addr) : OperandShape.Statement (.nopAbxFC v) := operandShape_of_entry 0xFC rfl rfl rfl ⟨rfl, rfl, rfl⟩
theorem OperandShape.sbcImmEB (v : Byte) : OperandShape.Statement (.sbcImmEB v) := operandShape_of_entry 0xEB rfl rfl rfl ⟨rfl, rfl, rfl⟩
theorem OperandShape.kil02 : OperandShape.Statement .kil02 := operandShape_of_entry 0x02 rfl rfl rfl ⟨rfl, rfl, rfl⟩
theorem OperandShape.kil12 : OperandShape.Statement .kil12 := operandShape_of_entry 0x12 rfl rfl rfl ⟨rfl, rfl, rfl⟩
theorem OperandShape.kil22 : OperandShape.Statement .kil22 := operandShape_of_entry 0x22 rfl rfl rfl ⟨rfl, rfl, rfl⟩
theorem OperandShape.kil32 : OperandShape.Statement .kil32 := operandShape_of_entry 0x32 rfl rfl rfl ⟨rfl, rfl, rfl⟩
theorem OperandShape.kil42 : OperandShape.Statement .kil42 := operandShape_of_entry 0x42 rfl rfl rfl ⟨rfl, rfl, rfl⟩
theorem OperandShape.kil52 : OperandShape.Statement .kil52 := operandShape_of_entry 0x52 rfl rfl rfl ⟨rfl, rfl, rfl⟩
theorem OperandShape.kil62 : OperandShape.Statement .kil62 := operandShape_of_entry 0x62 rfl rfl rfl ⟨rfl, rfl, rfl⟩
theorem OperandShape.kil72 : OperandShape.Statement .kil72 := operandShape_of_entry 0x72 rfl rfl rfl ⟨rfl, rfl, rfl⟩
theorem OperandShape.kil92 : OperandShape.Statement .kil92 := operandShape_of_entry 0x92 rfl rfl rfl ⟨rfl, rfl, rfl⟩
theorem OperandShape.kil93 : OperandShape.Statement .kil93 := operandShape_of_entry 0x93 rfl rfl rfl ⟨rfl, rfl, rfl⟩
theorem OperandShape.kil9B : OperandShape.Statement .kil9B := operandShape_of_entry 0x9B rfl rfl rfl ⟨rfl, rfl, rfl⟩
theorem OperandShape.kil9F : OperandShape.Statement .kil9F := operandShape_of_entry 0x9F rfl rfl rfl ⟨rfl, rfl, rfl⟩
theorem OperandShape.kilAB : OperandShape.Statement .kilAB := operandShape_of_entry 0xAB rfl rfl rfl ⟨rfl, rfl, rfl⟩
theorem OperandShape.kilB2 : OperandShape.Statement .kilB2 := operandShape_of_entry 0xB2 rfl rfl rfl ⟨rfl, rfl, rfl⟩
theorem OperandShape.kilBB : OperandShape.Statement .kilBB := operandShape_of_entry 0xBB rfl rfl rfl ⟨rfl, rfl, rfl⟩
theorem OperandShape.kilD2 : OperandShape.Statement .kilD2 := operandShape_of_entry 0xD2 rfl rfl rfl ⟨rfl, rfl, rfl⟩
theorem OperandShape.kilF2 : OperandShape.Statement .kilF2 := operandShape_of_entry 0xF2 rfl rfl rfl ⟨rfl, rfl, rfl⟩
theorem OperandShape.brk : OperandShape.Statement .brk := operandShape_of_entry 0x00 rfl rfl rfl ⟨rfl, rfl, rfl⟩
theorem OperandShape.rti : OperandShape.Statement .rti := operandShape_of_entry 0x40 rfl rfl rfl ⟨rfl, rfl, rfl⟩

end Sys2Proof.Laws
end

