-- ==== Sys2Proof/Tests/Slice0.lean ====
section
/-! SUPPORT. Tests: the checks of WellFormed on ill-formed terms, every constructor's decoding, one step of each
instruction on a row of the spec's own vectors (95_test_vectors.md), the host's commands, and a witness for every
statement that has hypotheses. -/

namespace Sys2Proof.Tests

open Sys2Proof.Machine Sys2Proof.Claims

/-! ## WellFormed refuses ill-formed terms -/

/-- R137: there is no `STA #`. -/
theorem test_wf_no_sta_immediate : AsmInstr.wellFormed ⟨.sta, .imm 0x42⟩ = false := by decide

/-- R137: there is no `LDX abs,X`. -/
theorem test_wf_no_ldx_absolute_x : AsmInstr.wellFormed ⟨.ldx, .mem (.abx 0x1234)⟩ = false := by decide

/-- R137: there is no `BIT zp,X`. -/
theorem test_wf_no_bit_zero_page_x : AsmInstr.wellFormed ⟨.bit, .mem (.zpx 0x10)⟩ = false := by decide

/-- R96: only a halt opcode has no addressing mode. -/
theorem test_wf_no_mode_is_kil_only :
    AsmInstr.wellFormed ⟨.nop, .halt⟩ = false ∧ AsmInstr.wellFormed ⟨.kil, .halt⟩ = true := by decide

/-- R104, R137: a pair that does not exist has no encoding. -/
theorem test_wf_no_encoding : assemble ⟨.sta, .imm 0x42⟩ = none := by decide

/-- R7, D9: `KIL_CYCLES` is at least 1. -/
theorem test_wf_kil_cycles : Config.wellFormed { Config.default with killCycles := 0 } = false := by decide

/-- R7: `MEM_SIZE` is at most 65536. -/
theorem test_wf_mem_size : Config.wellFormed { Config.default with memSize := 65537 } = false := by decide

/-- R7: `MEM_BASE` is an address. -/
theorem test_wf_mem_base : Config.wellFormed { Config.default with memBase := 65536 } = false := by decide

/-- The defaults of R7 are well-formed. -/
theorem test_wf_defaults : Config.default.wellFormed = true := by decide

/-- A memory that lists an address twice, or lists what an unlisted address reads as, is not in canonical form, and
a byte outside the backed region is not well-formed. -/
theorem test_wf_memory :
    Memory.wf [(5, 1), (5, 2)] = false ∧ Memory.wf [(5, 0)] = false ∧ Memory.wf [(65536, 1)] = false ∧
    State.wellFormed { State.construction with mem := [(0x1000, 1)], cfg := { Config.default with memSize := 0x1000 } } =
      false := by decide

/-! ## Decoding, by the encodings of opcode_table.json, bit by bit -/

/-- An opcode alone, with the operand byte 0x34, and with the operand bytes 0x34 and 0x12 (the word 0x1234, R92),
decodes to the instruction, and no byte is left. -/
def one (op : Byte) (i : Instr) : Bool := decode [op] == .instr i []
def two (op : Byte) (i : Byte → Instr) : Bool := decode [op, 0x34] == .instr (i 0x34) []
def three (op : Byte) (i : Addr → Instr) : Bool := decode [op, 0x34, 0x12] == .instr (i 0x1234) []

/-- The opcodes of 41_load_store_transfer_stack.md, part 1. -/
theorem test_decode_load_store_1 :
    (two 0b10101001 Instr.ldaImm && two 0b10100101 Instr.ldaZp && two 0b10110101 Instr.ldaZpx &&
     three 0b10101101 Instr.ldaAbs && two 0b10100001 Instr.ldaIzx && two 0b10110001 Instr.ldaIzy &&
     three 0b10111101 Instr.ldaAbx && three 0b10111001 Instr.ldaAby && two 0b10100010 Instr.ldxImm &&
     two 0b10100110 Instr.ldxZp && two 0b10110110 Instr.ldxZpy && three 0b10101110 Instr.ldxAbs &&
     three 0b10111110 Instr.ldxAby && two 0b10100000 Instr.ldyImm && two 0b10100100 Instr.ldyZp &&
     two 0b10110100 Instr.ldyZpx && three 0b10101100 Instr.ldyAbs && three 0b10111100 Instr.ldyAbx &&
     two 0b10000101 Instr.staZp && two 0b10010101 Instr.staZpx && three 0b10001101 Instr.staAbs &&
     two 0b10000001 Instr.staIzx && two 0b10010001 Instr.staIzy && three 0b10011101 Instr.staAbx &&
     three 0b10011001 Instr.staAby && two 0b10000110 Instr.stxZp && two 0b10010110 Instr.stxZpy &&
     three 0b10001110 Instr.stxAbs) = true := by decide

/-- The opcodes of 41_load_store_transfer_stack.md, part 2. -/
theorem test_decode_load_store_2 :
    (two 0b10000100 Instr.styZp && two 0b10010100 Instr.styZpx && three 0b10001100 Instr.styAbs &&
     one 0b10101010 .tax && one 0b10101000 .tay && one 0b10001010 .txa && one 0b10011000 .tya &&
     one 0b10111010 .tsx && one 0b10011010 .txs && one 0b01001000 .pha && one 0b00001000 .php &&
     one 0b01101000 .pla && one 0b00101000 .plp) = true := by decide

/-- The opcodes of 42_arithmetic_compare.md, part 1. -/
theorem test_decode_arithmetic_1 :
    (two 0b01101001 Instr.adcImm && two 0b01100101 Instr.adcZp && two 0b01110101 Instr.adcZpx &&
     three 0b01101101 Instr.adcAbs && two 0b01100001 Instr.adcIzx && two 0b01110001 Instr.adcIzy &&
     three 0b01111101 Instr.adcAbx && three 0b01111001 Instr.adcAby && two 0b11101001 Instr.sbcImm &&
     two 0b11100101 Instr.sbcZp && two 0b11110101 Instr.sbcZpx && three 0b11101101 Instr.sbcAbs &&
     two 0b11100001 Instr.sbcIzx && two 0b11110001 Instr.sbcIzy && three 0b11111101 Instr.sbcAbx &&
     three 0b11111001 Instr.sbcAby && two 0b11001001 Instr.cmpImm && two 0b11000101 Instr.cmpZp &&
     two 0b11010101 Instr.cmpZpx && three 0b11001101 Instr.cmpAbs && two 0b11000001 Instr.cmpIzx &&
     two 0b11010001 Instr.cmpIzy && three 0b11011101 Instr.cmpAbx && three 0b11011001 Instr.cmpAby &&
     two 0b11100000 Instr.cpxImm && two 0b11100100 Instr.cpxZp && three 0b11101100 Instr.cpxAbs &&
     two 0b11000000 Instr.cpyImm) = true := by decide

/-- The opcodes of 42_arithmetic_compare.md, part 2. -/
theorem test_decode_arithmetic_2 :
    (two 0b11000100 Instr.cpyZp && three 0b11001100 Instr.cpyAbs) = true := by decide

/-- The opcodes of 43_logic_bit_incdec.md, part 1. -/
theorem test_decode_logic_1 :
    (two 0b00101001 Instr.andImm && two 0b00100101 Instr.andZp && two 0b00110101 Instr.andZpx &&
     three 0b00101101 Instr.andAbs && two 0b00100001 Instr.andIzx && two 0b00110001 Instr.andIzy &&
     three 0b00111101 Instr.andAbx && three 0b00111001 Instr.andAby && two 0b00001001 Instr.oraImm &&
     two 0b00000101 Instr.oraZp && two 0b00010101 Instr.oraZpx && three 0b00001101 Instr.oraAbs &&
     two 0b00000001 Instr.oraIzx && two 0b00010001 Instr.oraIzy && three 0b00011101 Instr.oraAbx &&
     three 0b00011001 Instr.oraAby && two 0b01001001 Instr.eorImm && two 0b01000101 Instr.eorZp &&
     two 0b01010101 Instr.eorZpx && three 0b01001101 Instr.eorAbs && two 0b01000001 Instr.eorIzx &&
     two 0b01010001 Instr.eorIzy && three 0b01011101 Instr.eorAbx && three 0b01011001 Instr.eorAby &&
     two 0b00100100 Instr.bitZp && three 0b00101100 Instr.bitAbs && two 0b11100110 Instr.incZp &&
     two 0b11110110 Instr.incZpx) = true := by decide

/-- The opcodes of 43_logic_bit_incdec.md, part 2. -/
theorem test_decode_logic_2 :
    (three 0b11101110 Instr.incAbs && three 0b11111110 Instr.incAbx && two 0b11000110 Instr.decZp &&
     two 0b11010110 Instr.decZpx && three 0b11001110 Instr.decAbs && three 0b11011110 Instr.decAbx &&
     one 0b11101000 .inx && one 0b11001000 .iny && one 0b11001010 .dex &&
     one 0b10001000 .dey) = true := by decide

/-- The opcodes of 44_shift_rotate.md. -/
theorem test_decode_shift :
    (one 0b00001010 .aslAcc && two 0b00000110 Instr.aslZp && two 0b00010110 Instr.aslZpx &&
     three 0b00001110 Instr.aslAbs && three 0b00011110 Instr.aslAbx && one 0b01001010 .lsrAcc &&
     two 0b01000110 Instr.lsrZp && two 0b01010110 Instr.lsrZpx && three 0b01001110 Instr.lsrAbs &&
     three 0b01011110 Instr.lsrAbx && one 0b00101010 .rolAcc && two 0b00100110 Instr.rolZp &&
     two 0b00110110 Instr.rolZpx && three 0b00101110 Instr.rolAbs && three 0b00111110 Instr.rolAbx &&
     one 0b01101010 .rorAcc && two 0b01100110 Instr.rorZp && two 0b01110110 Instr.rorZpx &&
     three 0b01101110 Instr.rorAbs && three 0b01111110 Instr.rorAbx) = true := by decide

/-- The opcodes of 45_control_flow.md. -/
theorem test_decode_control :
    (three 0b01001100 Instr.jmpAbs && three 0b01101100 Instr.jmpInd && three 0b00100000 Instr.jsr &&
     one 0b01100000 .rts && two 0b00010000 Instr.bpl && two 0b00110000 Instr.bmi && two 0b01010000 Instr.bvc &&
     two 0b01110000 Instr.bvs && two 0b10010000 Instr.bcc && two 0b10110000 Instr.bcs &&
     two 0b11010000 Instr.bne && two 0b11110000 Instr.beq) = true := by decide

/-- The opcodes of 46_flags_nop.md. -/
theorem test_decode_flags :
    (one 0b00011000 .clc && one 0b00111000 .sec && one 0b01011000 .cli && one 0b01111000 .sei &&
     one 0b11011000 .cld && one 0b11111000 .sed && one 0b10111000 .clv &&
     one 0b11101010 .nop) = true := by decide

/-- The opcodes of 47_undocumented.md, part 1. -/
theorem test_decode_undocumented_1 :
    (two 0b10100111 Instr.laxZp && two 0b10110111 Instr.laxZpy && three 0b10101111 Instr.laxAbs &&
     two 0b10100011 Instr.laxIzx && two 0b10110011 Instr.laxIzy && three 0b10111111 Instr.laxAby &&
     two 0b10000111 Instr.saxZp && two 0b10010111 Instr.saxZpy && three 0b10001111 Instr.saxAbs &&
     two 0b10000011 Instr.saxIzx && two 0b00000111 Instr.sloZp && two 0b00010111 Instr.sloZpx &&
     three 0b00001111 Instr.sloAbs && two 0b00000011 Instr.sloIzx && two 0b00010011 Instr.sloIzy &&
     three 0b00011111 Instr.sloAbx && three 0b00011011 Instr.sloAby && two 0b00100111 Instr.rlaZp &&
     two 0b00110111 Instr.rlaZpx && three 0b00101111 Instr.rlaAbs && two 0b00100011 Instr.rlaIzx &&
     two 0b00110011 Instr.rlaIzy && three 0b00111111 Instr.rlaAbx && three 0b00111011 Instr.rlaAby &&
     two 0b01000111 Instr.sreZp && two 0b01010111 Instr.sreZpx && three 0b01001111 Instr.sreAbs &&
     two 0b01000011 Instr.sreIzx) = true := by decide

/-- The opcodes of 47_undocumented.md, part 2. -/
theorem test_decode_undocumented_2 :
    (two 0b01010011 Instr.sreIzy && three 0b01011111 Instr.sreAbx && three 0b01011011 Instr.sreAby &&
     two 0b01100111 Instr.rraZp && two 0b01110111 Instr.rraZpx && three 0b01101111 Instr.rraAbs &&
     two 0b01100011 Instr.rraIzx && two 0b01110011 Instr.rraIzy && three 0b01111111 Instr.rraAbx &&
     three 0b01111011 Instr.rraAby && two 0b11000111 Instr.dcpZp && two 0b11010111 Instr.dcpZpx &&
     three 0b11001111 Instr.dcpAbs && two 0b11000011 Instr.dcpIzx && two 0b11010011 Instr.dcpIzy &&
     three 0b11011111 Instr.dcpAbx && three 0b11011011 Instr.dcpAby && two 0b11100111 Instr.iscZp &&
     two 0b11110111 Instr.iscZpx && three 0b11101111 Instr.iscAbs && two 0b11100011 Instr.iscIzx &&
     two 0b11110011 Instr.iscIzy && three 0b11111111 Instr.iscAbx && three 0b11111011 Instr.iscAby &&
     two 0b00001011 Instr.ancImm0B && two 0b00101011 Instr.ancImm2B && two 0b01001011 Instr.alrImm &&
     two 0b01101011 Instr.arrImm) = true := by decide

/-- The opcodes of 47_undocumented.md, part 3. -/
theorem test_decode_undocumented_3 :
    (two 0b10001011 Instr.xaaImm && two 0b11001011 Instr.axsImm && three 0b10011110 Instr.shxAby &&
     three 0b10011100 Instr.shyAbx && one 0b00011010 .nopImp1A && one 0b00111010 .nopImp3A &&
     one 0b01011010 .nopImp5A && one 0b01111010 .nopImp7A && one 0b11011010 .nopImpDA &&
     one 0b11111010 .nopImpFA && two 0b10000000 Instr.nopImm80 && two 0b10000010 Instr.nopImm82 &&
     two 0b10001001 Instr.nopImm89 && two 0b11000010 Instr.nopImmC2 && two 0b11100010 Instr.nopImmE2 &&
     two 0b00000100 Instr.nopZp04 && two 0b01000100 Instr.nopZp44 && two 0b01100100 Instr.nopZp64 &&
     two 0b00010100 Instr.nopZpx14 && two 0b00110100 Instr.nopZpx34 && two 0b01010100 Instr.nopZpx54 &&
     two 0b01110100 Instr.nopZpx74 && two 0b11010100 Instr.nopZpxD4 && two 0b11110100 Instr.nopZpxF4 &&
     three 0b00001100 Instr.nopAbs0C && three 0b00011100 Instr.nopAbx1C && three 0b00111100 Instr.nopAbx3C &&
     three 0b01011100 Instr.nopAbx5C) = true := by decide

/-- The opcodes of 47_undocumented.md, part 4. -/
theorem test_decode_undocumented_4 :
    (three 0b01111100 Instr.nopAbx7C && three 0b11011100 Instr.nopAbxDC && three 0b11111100 Instr.nopAbxFC &&
     two 0b11101011 Instr.sbcImmEB && one 0b00000010 .kil02 && one 0b00010010 .kil12 &&
     one 0b00100010 .kil22 && one 0b00110010 .kil32 && one 0b01000010 .kil42 && one 0b01010010 .kil52 &&
     one 0b01100010 .kil62 && one 0b01110010 .kil72 && one 0b10010010 .kil92 && one 0b10010011 .kil93 &&
     one 0b10011011 .kil9B && one 0b10011111 .kil9F && one 0b10101011 .kilAB && one 0b10110010 .kilB2 &&
     one 0b10111011 .kilBB && one 0b11010010 .kilD2 && one 0b11110010 .kilF2) = true := by decide

/-- The opcodes of 60_exceptions.md. -/
theorem test_decode_interrupt :
    (one 0b00000000 .brk && one 0b01000000 .rti) = true := by decide

/-- The words of the host's table: bit 0 is the least significant bit of the first byte, missing operand bytes are 0,
and every byte value is an instruction. -/
theorem test_decode_table_words :
    decodeTableWord 16 0x42A9 = some (.ldaImm 0x42) ∧ decodeTableWord 24 0x02008D = some (.staAbs 0x0200) ∧
    decodeTableWord 8 0x20 = some (.jsr 0x0000) ∧ decodeTableWord 8 0xAB = some .kilAB := by decide

/-- An instruction that its bytes end before is refused by name (R90). -/
theorem test_decode_short :
    decode [] = .error .noOpcode ∧ decode [0xA9] = .error (.missingOperand 0xA9) ∧
    decode [0x8D, 0x00] = .error (.missingOperand 0x8D) := by decide

/-- The texts of R106. -/
theorem test_text :
    (Instr.ldaIzy 0x10).asm.text 0 = "LDA ($10),Y" ∧ (Instr.bne 0xFE).asm.text 0x0600 = "BNE $0600" ∧
    (Instr.jmpInd 0x10FF).asm.text 0 = "JMP ($10FF)" ∧ Instr.aslAcc.asm.text 0 = "ASL A" := by decide

/-! ## One step of each instruction, on rows of 95_test_vectors.md -/

/-- The default start state of the vectors: the state at construction with `PC = 0x0600`. -/
def start : State := { State.construction with PC := 0x0600 }

/-- One step from `s` with the bytes stored at `PC` answers a next state that `p` holds of. -/
def after (bytes : List Byte) (s : State) (p : State → Bool) : Bool :=
  match step (s.pokeBytes s.PC bytes) with
  | .next t => p t
  | _       => false

/-- The registers `A X Y S`, the status byte and `PC` after a step, and its cost. -/
def shows (t : State) (A X Y S P : Byte) (PC : Addr) (n : Nat) : Bool :=
  t.A == A && t.X == X && t.Y == Y && t.S == S && packStatus t == P && t.PC == PC && t.cycles == n

/-- V41.10: `LDA ($FF),Y`. -/
theorem test_lda :
    after [0xB1, 0xFF]
      ((((({ start with Y := 0x00 } : State).poke 0x0000 0x20).poke 0x0100 0x30).poke 0x2000 0x11).poke 0x3000 0x22)
      (fun t => shows t 0x11 0x00 0x00 0xFF 0x20 0x0602 5 &&
        t.bus == [.read 0x0600, .read 0x0601, .read 0x00FF, .read 0x0000, .read 0x2000]) = true := by decide

/-- V41.4: `LDA $F0,X`. -/
theorem test_lda_2 : after [0xB5, 0xF0] ((({ start with X := 0x20 } : State).poke 0x0010 0x33).poke 0x0110 0x44)
      (fun t => shows t 0x33 0x20 0x00 0xFF 0x20 0x0602 4 &&
        t.bus == [.read 0x0600, .read 0x0601, .read 0x0010]) = true := by decide

/-- V41.11: `LDX $F0,Y`. -/
theorem test_ldx : after [0xB6, 0xF0] (({ start with Y := 0x20 } : State).poke 0x0010 0x80)
      (fun t => shows t 0x00 0x80 0x20 0xFF 0xA0 0x0602 4 &&
        t.bus == [.read 0x0600, .read 0x0601, .read 0x0010]) = true := by decide

/-- V41.12: `LDX $2080,Y`. -/
theorem test_ldx_2 : after [0xBE, 0x80, 0x20] (({ start with Y := 0x80 } : State).poke 0x2100 0x01)
      (fun t => shows t 0x00 0x01 0x80 0xFF 0x20 0x0603 5 &&
        t.bus == [.read 0x0600, .read 0x0601, .read 0x0602, .read 0x2100]) = true := by decide

/-- V41.13: `LDY $2080,X`. -/
theorem test_ldy : after [0xBC, 0x80, 0x20] { start with X := 0x7F, Y := 0x09 }
      (fun t => shows t 0x00 0x7F 0x00 0xFF 0x22 0x0603 4 &&
        t.bus == [.read 0x0600, .read 0x0601, .read 0x0602, .read 0x20FF]) = true := by decide

/-- V41.14: `STA $12F0,X`. -/
theorem test_sta : after [0x9D, 0xF0, 0x12] { start with A := 0xAB, X := 0x20 }
      (fun t => shows t 0xAB 0x20 0x00 0xFF 0x20 0x0603 5 && t.peek 0x1310 == 0xAB &&
        t.bus == [.read 0x0600, .read 0x0601, .read 0x0602, .write 0x1310 0xAB]) = true := by decide

/-- V41.16: `STA ($10),Y`. -/
theorem test_sta_2 :
    after [0x91, 0x10]
      ((({ start with A := 0x01, Y := 0xFF } : State).poke 0x0010 0x01).poke 0x0011 0x40)
      (fun t => shows t 0x01 0x00 0xFF 0xFF 0x20 0x0602 6 && t.peek 0x4100 == 0x01 &&
        t.bus == [.read 0x0600, .read 0x0601, .read 0x0010, .read 0x0011, .write 0x4100 0x01]) = true := by decide

/-- V41.18: `STX $FF,Y`. -/
theorem test_stx : after [0x96, 0xFF] { start with X := 0x66, Y := 0x02 }
      (fun t => shows t 0x00 0x66 0x02 0xFF 0x20 0x0602 4 && t.peek 0x0001 == 0x66 &&
        t.bus == [.read 0x0600, .read 0x0601, .write 0x0001 0x66]) = true := by decide

/-- V41.19: `STY $10,X`. -/
theorem test_sty : after [0x94, 0x10] { start with X := 0x01, Y := 0x00, N := true }
      (fun t => shows t 0x00 0x01 0x00 0xFF 0xA0 0x0602 4 && t.peek 0x0011 == 0x00 &&
        t.bus == [.read 0x0600, .read 0x0601, .write 0x0011 0x00]) = true := by decide

/-- V41.20: `TAX`. -/
theorem test_tax : after [0xAA] { start with A := 0x80 }
      (fun t => shows t 0x80 0x80 0x00 0xFF 0xA0 0x0601 2 && t.bus == [.read 0x0600]) = true := by decide

/-- V41.21: `TAY`. -/
theorem test_tay : after [0xA8] { start with A := 0x00, Y := 0x11 }
      (fun t => shows t 0x00 0x00 0x00 0xFF 0x22 0x0601 2 && t.bus == [.read 0x0600]) = true := by decide

/-- V41.22: `TXA`. -/
theorem test_txa : after [0x8A] { start with A := 0x80, X := 0x7F, N := true }
      (fun t => shows t 0x7F 0x7F 0x00 0xFF 0x20 0x0601 2 && t.bus == [.read 0x0600]) = true := by decide

/-- V41.23: `TYA`. -/
theorem test_tya : after [0x98] { start with Y := 0xFF }
      (fun t => shows t 0xFF 0x00 0xFF 0xFF 0xA0 0x0601 2 && t.bus == [.read 0x0600]) = true := by decide

/-- V41.24: `TSX`. -/
theorem test_tsx : after [0xBA] { start with X := 0x12, S := 0x00 }
      (fun t => shows t 0x00 0x00 0x00 0x00 0x22 0x0601 2 && t.bus == [.read 0x0600]) = true := by decide

/-- V41.25: `TXS`. -/
theorem test_txs : after [0x9A] { start with X := 0x00, S := 0xFF, N := true }
      (fun t => shows t 0x00 0x00 0x00 0x00 0xA0 0x0601 2 && t.bus == [.read 0x0600]) = true := by decide

/-- V41.27: `PHA`. -/
theorem test_pha : after [0x48] { start with A := 0x5A, S := 0x00 }
      (fun t => shows t 0x5A 0x00 0x00 0xFF 0x20 0x0601 3 && t.peek 0x0100 == 0x5A &&
        t.bus == [.read 0x0600, .write 0x0100 0x5A]) = true := by decide

/-- V41.28: `PHP`. -/
theorem test_php : after [0x08] { start with N := true, C := true }
      (fun t => shows t 0x00 0x00 0x00 0xFE 0xA1 0x0601 3 && t.peek 0x01FF == 0xB1 &&
        t.bus == [.read 0x0600, .write 0x01FF 0xB1]) = true := by decide

/-- V41.31: `PLA`. -/
theorem test_pla : after [0x68] (({ start with S := 0xFF } : State).poke 0x0100 0x80)
      (fun t => shows t 0x80 0x00 0x00 0x00 0xA0 0x0601 4 &&
        t.bus == [.read 0x0600, .read 0x0100]) = true := by decide

/-- V41.33: `PLP`. -/
theorem test_plp :
    after [0x28]
      { start with S := 0xFE, N := true, V := true, B := true, D := true, I := true, Z := true, C := true }
      (fun t => shows t 0x00 0x00 0x00 0xFF 0x20 0x0601 4 &&
        t.bus == [.read 0x0600, .read 0x01FF]) = true := by decide

/-- V42.3: `ADC #$00`. -/
theorem test_adc : after [0x69, 0x00] { start with A := 0x7F, C := true }
      (fun t => shows t 0x80 0x00 0x00 0xFF 0xE0 0x0602 2 &&
        t.bus == [.read 0x0600, .read 0x0601]) = true := by decide

/-- V42.6: `ADC #$01`. -/
theorem test_adc_2 : after [0x69, 0x01] { start with A := 0x99, D := true }
      (fun t => shows t 0x00 0x00 0x00 0xFF 0xA9 0x0602 2 &&
        t.bus == [.read 0x0600, .read 0x0601]) = true := by decide

/-- V42.16: `SBC #$01`. -/
theorem test_sbc : after [0xE9, 0x01] { start with A := 0x80, C := true }
      (fun t => shows t 0x7F 0x00 0x00 0xFF 0x61 0x0602 2 &&
        t.bus == [.read 0x0600, .read 0x0601]) = true := by decide

/-- V42.19: `SBC #$01`. -/
theorem test_sbc_2 : after [0xE9, 0x01] { start with A := 0x00, D := true, C := true }
      (fun t => shows t 0x99 0x00 0x00 0xFF 0xA8 0x0602 2 &&
        t.bus == [.read 0x0600, .read 0x0601]) = true := by decide

/-- V42.24: `CMP #$11`. -/
theorem test_cmp : after [0xC9, 0x11] { start with A := 0x10 }
      (fun t => shows t 0x10 0x00 0x00 0xFF 0xA0 0x0602 2 &&
        t.bus == [.read 0x0600, .read 0x0601]) = true := by decide

/-- V42.31: `CMP ($10),Y`. -/
theorem test_cmp_2 :
    after [0xD1, 0x10]
      (((({ start with A := 0x05, Y := 0x10 } : State).poke 0x0010 0xF0).poke 0x0011 0x12).poke 0x1300 0x06)
      (fun t => shows t 0x05 0x00 0x10 0xFF 0xA0 0x0602 6 &&
        t.bus == [.read 0x0600, .read 0x0601, .read 0x0010, .read 0x0011, .read 0x1300]) = true := by decide

/-- V42.28: `CPX #$80`. -/
theorem test_cpx : after [0xE0, 0x80] { start with X := 0x7F }
      (fun t => shows t 0x00 0x7F 0x00 0xFF 0xA0 0x0602 2 &&
        t.bus == [.read 0x0600, .read 0x0601]) = true := by decide

/-- V42.29: `CPY $10`. -/
theorem test_cpy : after [0xC4, 0x10] (({ start with Y := 0x01 } : State).poke 0x0010 0x01)
      (fun t => shows t 0x00 0x00 0x01 0xFF 0x23 0x0602 3 &&
        t.bus == [.read 0x0600, .read 0x0601, .read 0x0010]) = true := by decide

/-- V43.1: `AND #$00`. -/
theorem test_and : after [0x29, 0x00] { start with A := 0xFF }
      (fun t => shows t 0x00 0x00 0x00 0xFF 0x22 0x0602 2 &&
        t.bus == [.read 0x0600, .read 0x0601]) = true := by decide

/-- V43.7: `AND $00FF,X`. -/
theorem test_and_2 : after [0x3D, 0xFF, 0x00] (({ start with A := 0xFF, X := 0x01 } : State).poke 0x0100 0x0F)
      (fun t => shows t 0x0F 0x01 0x00 0xFF 0x20 0x0603 5 &&
        t.bus == [.read 0x0600, .read 0x0601, .read 0x0602, .read 0x0100]) = true := by decide

/-- V43.4: `ORA #$80`. -/
theorem test_ora : after [0x09, 0x80] { start with A := 0x01 }
      (fun t => shows t 0x81 0x00 0x00 0xFF 0xA0 0x0602 2 &&
        t.bus == [.read 0x0600, .read 0x0601]) = true := by decide

/-- V43.8: `ORA ($10),Y`. -/
theorem test_ora_2 :
    after [0x11, 0x10]
      ((({ start with A := 0x01, Y := 0x01 } : State).poke 0x0011 0x30).poke 0x3001 0x02)
      (fun t => shows t 0x03 0x00 0x01 0xFF 0x20 0x0602 5 &&
        t.bus == [.read 0x0600, .read 0x0601, .read 0x0010, .read 0x0011, .read 0x3001]) = true := by decide

/-- V43.6: `EOR #$80`. -/
theorem test_eor : after [0x49, 0x80] { start with A := 0x01, V := true, C := true }
      (fun t => shows t 0x81 0x00 0x00 0xFF 0xE1 0x0602 2 &&
        t.bus == [.read 0x0600, .read 0x0601]) = true := by decide

/-- V43.9: `BIT $10`. -/
theorem test_bit : after [0x24, 0x10] (({ start with A := 0x00 } : State).poke 0x0010 0xC0)
      (fun t => shows t 0x00 0x00 0x00 0xFF 0xE2 0x0602 3 &&
        t.bus == [.read 0x0600, .read 0x0601, .read 0x0010]) = true := by decide

/-- V43.10: `BIT $10`. -/
theorem test_bit_2 :
    after [0x24, 0x10]
      (({ start with A := 0xFF, N := true, V := true, Z := true } : State).poke 0x0010 0x3F)
      (fun t => shows t 0xFF 0x00 0x00 0xFF 0x20 0x0602 3 &&
        t.bus == [.read 0x0600, .read 0x0601, .read 0x0010]) = true := by decide

/-- V43.12: `INC $10`. -/
theorem test_inc : after [0xE6, 0x10] (({ start with C := true } : State).poke 0x0010 0xFF)
      (fun t => shows t 0x00 0x00 0x00 0xFF 0x23 0x0602 5 && t.peek 0x0010 == 0x00 &&
        t.bus == [.read 0x0600, .read 0x0601, .read 0x0010, .write 0x0010 0x00]) = true := by decide

/-- V43.14: `INC $FF,X`. -/
theorem test_inc_2 : after [0xF6, 0xFF] (({ start with X := 0x11 } : State).poke 0x0110 0x55)
      (fun t => shows t 0x00 0x11 0x00 0xFF 0x20 0x0602 6 && t.peek 0x0010 == 0x01 &&
        t.bus == [.read 0x0600, .read 0x0601, .read 0x0010, .write 0x0010 0x01]) = true := by decide

/-- V43.18: `DEC $0200`. -/
theorem test_dec : after [0xCE, 0x00, 0x02] (start.poke 0x0200 0x01)
      (fun t => shows t 0x00 0x00 0x00 0xFF 0x22 0x0603 6 && t.peek 0x0200 == 0x00 &&
        t.bus == [.read 0x0600, .read 0x0601, .read 0x0602, .read 0x0200, .write 0x0200 0x00]) = true := by decide

/-- V43.19: `INX`. -/
theorem test_inx : after [0xE8] { start with X := 0xFF }
      (fun t => shows t 0x00 0x00 0x00 0xFF 0x22 0x0601 2 && t.bus == [.read 0x0600]) = true := by decide

/-- V43.20: `INY`. -/
theorem test_iny : after [0xC8] { start with Y := 0x7F }
      (fun t => shows t 0x00 0x00 0x80 0xFF 0xA0 0x0601 2 && t.bus == [.read 0x0600]) = true := by decide

/-- V43.21: `DEX`. -/
theorem test_dex : after [0xCA] { start with X := 0x00 }
      (fun t => shows t 0x00 0xFF 0x00 0xFF 0xA0 0x0601 2 && t.bus == [.read 0x0600]) = true := by decide

/-- V43.22: `DEY`. -/
theorem test_dey : after [0x88] { start with Y := 0x01 }
      (fun t => shows t 0x00 0x00 0x00 0xFF 0x22 0x0601 2 && t.bus == [.read 0x0600]) = true := by decide

/-- V44.1: `ASL A`. -/
theorem test_asl : after [0x0A] { start with A := 0x80 }
      (fun t => shows t 0x00 0x00 0x00 0xFF 0x23 0x0601 2 && t.bus == [.read 0x0600]) = true := by decide

/-- V44.9: `ASL $10`. -/
theorem test_asl_2 : after [0x06, 0x10] (({ start with A := 0x77 } : State).poke 0x0010 0xC1)
      (fun t => shows t 0x77 0x00 0x00 0xFF 0xA1 0x0602 5 && t.peek 0x0010 == 0x82 &&
        t.bus == [.read 0x0600, .read 0x0601, .read 0x0010, .write 0x0010 0x82]) = true := by decide

/-- V44.4: `LSR A`. -/
theorem test_lsr : after [0x4A] { start with A := 0xFF, N := true }
      (fun t => shows t 0x7F 0x00 0x00 0xFF 0x21 0x0601 2 && t.bus == [.read 0x0600]) = true := by decide

/-- V44.10: `LSR $F0,X`. -/
theorem test_lsr_2 : after [0x56, 0xF0] (({ start with X := 0x20 } : State).poke 0x0010 0x02)
      (fun t => shows t 0x00 0x20 0x00 0xFF 0x20 0x0602 6 && t.peek 0x0010 == 0x01 &&
        t.bus == [.read 0x0600, .read 0x0601, .read 0x0010, .write 0x0010 0x01]) = true := by decide

/-- V44.6: `ROL A`. -/
theorem test_rol : after [0x2A] { start with A := 0x00, C := true }
      (fun t => shows t 0x01 0x00 0x00 0xFF 0x20 0x0601 2 && t.bus == [.read 0x0600]) = true := by decide

/-- V44.11: `ROL $0200`. -/
theorem test_rol_2 : after [0x2E, 0x00, 0x02] (({ start with C := true } : State).poke 0x0200 0x55)
      (fun t => shows t 0x00 0x00 0x00 0xFF 0xA0 0x0603 6 && t.peek 0x0200 == 0xAB &&
        t.bus == [.read 0x0600, .read 0x0601, .read 0x0602, .read 0x0200, .write 0x0200 0xAB]) = true := by decide

/-- V44.8: `ROR A`. -/
theorem test_ror : after [0x6A] { start with A := 0x00, C := true }
      (fun t => shows t 0x80 0x00 0x00 0xFF 0xA0 0x0601 2 && t.bus == [.read 0x0600]) = true := by decide

/-- V44.12: `ROR $20FF,X`. -/
theorem test_ror_2 : after [0x7E, 0xFF, 0x20] (({ start with X := 0x01, C := true } : State).poke 0x2100 0x01)
      (fun t => shows t 0x00 0x01 0x00 0xFF 0xA1 0x0603 7 && t.peek 0x2100 == 0x80 &&
        t.bus == [.read 0x0600, .read 0x0601, .read 0x0602, .read 0x2100, .write 0x2100 0x80]) = true := by decide

/-- V45.1: `JMP $1234`. -/
theorem test_jmp : after [0x4C, 0x34, 0x12] start
      (fun t => shows t 0x00 0x00 0x00 0xFF 0x20 0x1234 3 &&
        t.bus == [.read 0x0600, .read 0x0601, .read 0x0602]) = true := by decide

/-- V45.5: `JMP ($FFFF)`. -/
theorem test_jmp_2 : after [0x6C, 0xFF, 0xFF] (((start.poke 0x0000 0x56).poke 0xFF00 0x12).poke 0xFFFF 0x34)
      (fun t => shows t 0x00 0x00 0x00 0xFF 0x20 0x1234 5 &&
        t.bus == [.read 0x0600, .read 0x0601, .read 0x0602, .read 0xFFFF, .read 0xFF00]) = true := by decide

/-- V45.8: `JSR $0700`. -/
theorem test_jsr : after [0x20, 0x00, 0x07] { start with S := 0x00, PC := 0x06FE }
      (fun t => shows t 0x00 0x00 0x00 0xFE 0x20 0x0700 6 && t.peek 0x0100 == 0x07 && t.peek 0x01FF == 0x00 &&
        t.bus == [.read 0x06FE, .read 0x06FF, .read 0x0700, .write 0x0100 0x07, .write 0x01FF 0x00]) = true := by decide

/-- V45.10: `RTS`. -/
theorem test_rts :
    after [0x60]
      ((({ start with S := 0xFD, PC := 0x0700 } : State).poke 0x01FE 0xFF).poke 0x01FF 0xFF)
      (fun t => shows t 0x00 0x00 0x00 0xFF 0x20 0x0000 6 &&
        t.bus == [.read 0x0700, .read 0x01FE, .read 0x01FF]) = true := by decide

/-- V45.12: `BPL $0607`. -/
theorem test_bpl : after [0x10, 0x05] { start with N := true }
      (fun t => shows t 0x00 0x00 0x00 0xFF 0xA0 0x0602 2 &&
        t.bus == [.read 0x0600, .read 0x0601]) = true := by decide

/-- V45.13: `BMI $0600`. -/
theorem test_bmi : after [0x30, 0xFE] { start with N := true }
      (fun t => shows t 0x00 0x00 0x00 0xFF 0xA0 0x0600 3 &&
        t.bus == [.read 0x0600, .read 0x0601]) = true := by decide

/-- V45.14: `BVC $0681`. -/
theorem test_bvc : after [0x50, 0x7F] start
      (fun t => shows t 0x00 0x00 0x00 0xFF 0x20 0x0681 3 &&
        t.bus == [.read 0x0600, .read 0x0601]) = true := by decide

/-- V45.15: `BVS $0681`. -/
theorem test_bvs : after [0x70, 0x7F] start
      (fun t => shows t 0x00 0x00 0x00 0xFF 0x20 0x0602 2 &&
        t.bus == [.read 0x0600, .read 0x0601]) = true := by decide

/-- V45.16: `BCC $0582`. -/
theorem test_bcc : after [0x90, 0x80] start
      (fun t => shows t 0x00 0x00 0x00 0xFF 0x20 0x0582 4 &&
        t.bus == [.read 0x0600, .read 0x0601]) = true := by decide

/-- V45.17: `BCS $0681`. -/
theorem test_bcs : after [0xB0, 0x7F] { start with C := true }
      (fun t => shows t 0x00 0x00 0x00 0xFF 0x21 0x0681 3 &&
        t.bus == [.read 0x0600, .read 0x0601]) = true := by decide

/-- V45.22: `BNE $0002`. -/
theorem test_bne : after [0xD0, 0x10] { start with PC := 0xFFF0 }
      (fun t => shows t 0x00 0x00 0x00 0xFF 0x20 0x0002 4 &&
        t.bus == [.read 0xFFF0, .read 0xFFF1]) = true := by decide

/-- V45.21: `BEQ $06FF`. -/
theorem test_beq : after [0xF0, 0xFD] { start with Z := true, PC := 0x0700 }
      (fun t => shows t 0x00 0x00 0x00 0xFF 0x22 0x06FF 4 &&
        t.bus == [.read 0x0700, .read 0x0701]) = true := by decide

/-- V46.1: `CLC`. -/
theorem test_clc : after [0x18] { start with C := true }
      (fun t => shows t 0x00 0x00 0x00 0xFF 0x20 0x0601 2 && t.bus == [.read 0x0600]) = true := by decide

/-- V46.2: `SEC`. -/
theorem test_sec : after [0x38] start
      (fun t => shows t 0x00 0x00 0x00 0xFF 0x21 0x0601 2 && t.bus == [.read 0x0600]) = true := by decide

/-- V46.3: `CLI`. -/
theorem test_cli : after [0x58] { start with I := true }
      (fun t => shows t 0x00 0x00 0x00 0xFF 0x20 0x0601 2 && t.bus == [.read 0x0600]) = true := by decide

/-- V46.4: `SEI`. -/
theorem test_sei : after [0x78] start
      (fun t => shows t 0x00 0x00 0x00 0xFF 0x24 0x0601 2 && t.bus == [.read 0x0600]) = true := by decide

/-- V46.5: `CLD`. -/
theorem test_cld : after [0xD8] { start with D := true }
      (fun t => shows t 0x00 0x00 0x00 0xFF 0x20 0x0601 2 && t.bus == [.read 0x0600]) = true := by decide

/-- V46.6: `SED`. -/
theorem test_sed : after [0xF8] start
      (fun t => shows t 0x00 0x00 0x00 0xFF 0x28 0x0601 2 && t.bus == [.read 0x0600]) = true := by decide

/-- V46.7: `CLV`. -/
theorem test_clv : after [0xB8] { start with N := true, V := true }
      (fun t => shows t 0x00 0x00 0x00 0xFF 0xA0 0x0601 2 && t.bus == [.read 0x0600]) = true := by decide

/-- V46.8: `NOP`. -/
theorem test_nop : after [0xEA] { start with A := 0x12, Z := true, C := true }
      (fun t => shows t 0x12 0x00 0x00 0xFF 0x23 0x0601 2 && t.bus == [.read 0x0600]) = true := by decide

/-- V47.2: `LAX* $12F0,Y`. -/
theorem test_lax : after [0xBF, 0xF0, 0x12] { start with A := 0x11, X := 0x22, Y := 0x20 }
      (fun t => shows t 0x00 0x00 0x20 0xFF 0x22 0x0603 5 &&
        t.bus == [.read 0x0600, .read 0x0601, .read 0x0602, .read 0x1310]) = true := by decide

/-- V47.3: `LAX* ($10),Y`. -/
theorem test_lax_2 :
    after [0xB3, 0x10]
      (((({ start with Y := 0x01 } : State).poke 0x0010 0xFF).poke 0x0011 0x12).poke 0x1300 0x42)
      (fun t => shows t 0x42 0x42 0x01 0xFF 0x20 0x0602 6 &&
        t.bus == [.read 0x0600, .read 0x0601, .read 0x0010, .read 0x0011, .read 0x1300]) = true := by decide

/-- V47.6: `SAX* ($10,X)`. -/
theorem test_sax : after [0x83, 0x10] (({ start with A := 0xFF, X := 0x04 } : State).poke 0x0015 0x03)
      (fun t => shows t 0xFF 0x04 0x00 0xFF 0x20 0x0602 6 && t.peek 0x0300 == 0x04 &&
        t.bus == [.read 0x0600, .read 0x0601, .read 0x0014, .read 0x0015, .write 0x0300 0x04]) = true := by decide

/-- V47.8: `SLO* $20FF,X`. -/
theorem test_slo : after [0x1F, 0xFF, 0x20] (({ start with A := 0x00, X := 0x01 } : State).poke 0x2100 0x40)
      (fun t => shows t 0x80 0x01 0x00 0xFF 0xA0 0x0603 7 && t.peek 0x2100 == 0x80 &&
        t.bus == [.read 0x0600, .read 0x0601, .read 0x0602, .read 0x2100, .write 0x2100 0x80]) = true := by decide

/-- V47.9: `RLA* $10`. -/
theorem test_rla : after [0x27, 0x10] (({ start with A := 0xF0, C := true } : State).poke 0x0010 0x40)
      (fun t => shows t 0x80 0x00 0x00 0xFF 0xA0 0x0602 5 && t.peek 0x0010 == 0x81 &&
        t.bus == [.read 0x0600, .read 0x0601, .read 0x0010, .write 0x0010 0x81]) = true := by decide

/-- V47.10: `SRE* $10`. -/
theorem test_sre : after [0x47, 0x10] (({ start with A := 0x01 } : State).poke 0x0010 0x03)
      (fun t => shows t 0x00 0x00 0x00 0xFF 0x23 0x0602 5 && t.peek 0x0010 == 0x01 &&
        t.bus == [.read 0x0600, .read 0x0601, .read 0x0010, .write 0x0010 0x01]) = true := by decide

/-- V47.12: `RRA* $10`. -/
theorem test_rra :
    after [0x67, 0x10]
      (({ start with A := 0x09, D := true, C := true } : State).poke 0x0010 0x12)
      (fun t => shows t 0x98 0x00 0x00 0xFF 0xA8 0x0602 5 && t.peek 0x0010 == 0x89 &&
        t.bus == [.read 0x0600, .read 0x0601, .read 0x0010, .write 0x0010 0x89]) = true := by decide

/-- V47.13: `RRA* $20FF,Y`. -/
theorem test_rra_2 : after [0x7B, 0xFF, 0x20] (({ start with A := 0x7F, Y := 0x01 } : State).poke 0x2100 0x01)
      (fun t => shows t 0x80 0x00 0x01 0xFF 0xE0 0x0603 7 && t.peek 0x2100 == 0x00 &&
        t.bus == [.read 0x0600, .read 0x0601, .read 0x0602, .read 0x2100, .write 0x2100 0x00]) = true := by decide

/-- V47.15: `DCP* $20FF,X`. -/
theorem test_dcp : after [0xDF, 0xFF, 0x20] { start with A := 0x00, X := 0x01 }
      (fun t => shows t 0x00 0x01 0x00 0xFF 0x20 0x0603 7 && t.peek 0x2100 == 0xFF &&
        t.bus == [.read 0x0600, .read 0x0601, .read 0x0602, .read 0x2100, .write 0x2100 0xFF]) = true := by decide

/-- V47.17: `ISC* $10`. -/
theorem test_isc : after [0xE7, 0x10] { start with A := 0x10, D := true, C := true }
      (fun t => shows t 0x09 0x00 0x00 0xFF 0x29 0x0602 5 && t.peek 0x0010 == 0x01 &&
        t.bus == [.read 0x0600, .read 0x0601, .read 0x0010, .write 0x0010 0x01]) = true := by decide

/-- V47.18: `ISC* ($10),Y`. -/
theorem test_isc_2 :
    after [0xF3, 0x10]
      ((({ start with A := 0x00, Y := 0x00 } : State).poke 0x0011 0x03).poke 0x0300 0xFF)
      (fun t => shows t 0xFF 0x00 0x00 0xFF 0xA0 0x0602 8 && t.peek 0x0300 == 0x00 &&
        t.bus == [.read 0x0600, .read 0x0601, .read 0x0010, .read 0x0011, .read 0x0300, .write 0x0300 0x00]) = true := by decide

/-- V47.20: `ANC* #$0F`. -/
theorem test_anc : after [0x2B, 0x0F] { start with A := 0xF0, C := true }
      (fun t => shows t 0x00 0x00 0x00 0xFF 0x22 0x0602 2 &&
        t.bus == [.read 0x0600, .read 0x0601]) = true := by decide

/-- V47.22: `ALR* #$FE`. -/
theorem test_alr : after [0x4B, 0xFE] { start with A := 0x01, N := true, C := true }
      (fun t => shows t 0x00 0x00 0x00 0xFF 0x22 0x0602 2 &&
        t.bus == [.read 0x0600, .read 0x0601]) = true := by decide

/-- V47.25: `ARR* #$FF`. -/
theorem test_arr : after [0x6B, 0xFF] { start with A := 0x80, D := true }
      (fun t => shows t 0x40 0x00 0x00 0xFF 0x69 0x0602 2 &&
        t.bus == [.read 0x0600, .read 0x0601]) = true := by decide

/-- V47.27: `XAA* #$0F`. -/
theorem test_xaa : after [0x8B, 0x0F] { start with A := 0xFF, X := 0x3C }
      (fun t => shows t 0x0C 0x3C 0x00 0xFF 0x20 0x0602 2 &&
        t.bus == [.read 0x0600, .read 0x0601]) = true := by decide

/-- V47.30: `AXS* #$10`. -/
theorem test_axs : after [0xCB, 0x10] { start with A := 0x0F, X := 0xFF, D := true, C := true }
      (fun t => shows t 0x0F 0xFF 0x00 0xFF 0xA8 0x0602 2 &&
        t.bus == [.read 0x0600, .read 0x0601]) = true := by decide

/-- V47.33: `SHX* $FFF0,Y`. -/
theorem test_shx : after [0x9E, 0xF0, 0xFF] { start with X := 0xFF, Y := 0x20 }
      (fun t => shows t 0x00 0xFF 0x20 0xFF 0x20 0x0603 5 && t.peek 0x0010 == 0x00 &&
        t.bus == [.read 0x0600, .read 0x0601, .read 0x0602, .write 0x0010 0x00]) = true := by decide

/-- V47.34: `SHY* $12F0,X`. -/
theorem test_shy : after [0x9C, 0xF0, 0x12] { start with X := 0x20, Y := 0x17 }
      (fun t => shows t 0x00 0x20 0x17 0xFF 0x20 0x0603 5 && t.peek 0x1310 == 0x13 &&
        t.bus == [.read 0x0600, .read 0x0601, .read 0x0602, .write 0x1310 0x13]) = true := by decide

/-- V47.40: `NOP* $12F0,X`. -/
theorem test_nop_2 : after [0x1C, 0xF0, 0x12] { start with X := 0x20 }
      (fun t => shows t 0x00 0x20 0x00 0xFF 0x20 0x0603 5 &&
        t.bus == [.read 0x0600, .read 0x0601, .read 0x0602, .read 0x1310]) = true := by decide

/-- V47.44: `KIL`. -/
theorem test_kil : after [0x02] { start with A := 0x12, C := true }
      (fun t => shows t 0x12 0x00 0x00 0xFF 0x21 0x0600 2 && t.bus == [.read 0x0600] &&
        t.status == .halted) = true := by decide

/-- V47.46: `KIL`. -/
theorem test_kil_2 : after [0xAB, 0x55] { start with A := 0x12, X := 0x34 }
      (fun t => shows t 0x12 0x34 0x00 0xFF 0x20 0x0600 2 && t.bus == [.read 0x0600] &&
        t.status == .halted) = true := by decide

/-- V60.3: `BRK`. -/
theorem test_brk : after [0x00] { start with S := 0x01, PC := 0xFFFF }
      (fun t => shows t 0x00 0x00 0x00 0xFE 0x24 0x0000 7 && t.peek 0x0101 == 0x00 && t.peek 0x0100 == 0x01 &&
        t.peek 0x01FF == 0x30 &&
        t.bus == [.read 0xFFFF, .write 0x0101 0x00, .write 0x0100 0x01, .write 0x01FF 0x30, .read 0xFFFE, .read 0xFFFF]) = true := by decide

/-- V60.1: `BRK`. -/
theorem test_brk_2 : after [0x00, 0xEA] (({ start with I := true, PC := 0x0607 } : State).poke 0xFFFF 0x80)
      (fun t => shows t 0x00 0x00 0x00 0xFC 0x24 0x8000 7 && t.peek 0x01FF == 0x06 && t.peek 0x01FE == 0x09 &&
        t.peek 0x01FD == 0x34 &&
        t.bus == [.read 0x0607, .write 0x01FF 0x06, .write 0x01FE 0x09, .write 0x01FD 0x34, .read 0xFFFE, .read 0xFFFF]) = true := by decide

/-- V60.6: `RTI`. -/
theorem test_rti :
    after [0x40]
      (((({ start with S := 0xFE, PC := 0x9000 } : State).poke 0x0100 0x34).poke 0x0101 0x12).poke 0x01FF 0xCF)
      (fun t => shows t 0x00 0x00 0x00 0x01 0xEF 0x1234 6 &&
        t.bus == [.read 0x9000, .read 0x01FF, .read 0x0100, .read 0x0101]) = true := by decide

/-! ## The host's side -/

/-- The next state of a step that answers one, and a default otherwise. -/
def nextOf (o : Host.Outcome State Fault Refusal) : State :=
  match o with
  | .next t => t
  | _       => State.construction

/-- L1.1: a byte outside the backed region is dropped, and reads as `FILL`. -/
theorem test_unbacked_write :
    let s : State := { start with cfg := { Config.default with memSize := 0x1000 } }
    (memWrite 0x1000 0xA7 s).peek 0x1000 = 0xFF ∧ (memWrite 0x0FFF 0xA7 s).peek 0x0FFF = 0xA7 ∧
    (memWrite 0x0FFF 0xA7 s).mem = [(0x0FFF, 0xA7)] ∧
    (memWrite 0x0FFF 0x00 (memWrite 0x0FFF 0xA7 s)).mem = [] := by decide

/-- V48.1: NMI service with every flag set and the stack at its wrap. -/
theorem test_nmi_service :
    let s : State := { start with
      PC := 0x1234, S := 0x01, C := true, Z := true, I := true, D := true, B := true, V := true, N := true
      opcode := 0xEA }
    let t := nextOf (step (triggerNmi ((s.poke 0xFFFA 0xCD).poke 0xFFFB 0xAB)))
    shows t 0x00 0x00 0x00 0xFE 0xFF 0xABCD 7 = true ∧ t.opcode = 0xEA ∧ t.nmiEdge = false ∧ t.status = .nmi ∧
    t.peek 0x0101 = 0x12 ∧ t.peek 0x0100 = 0x34 ∧ t.peek 0x01FF = 0xEF := by decide

/-- V48.2: `Reset`, which keeps `opcode` and a pending NMI. -/
theorem test_reset_command :
    let s : State := { start with
      A := 0x12, X := 0x34, Y := 0x56, S := 0x78, PC := 0x4321, totalCycles := 100, cycles := 3, opcode := 0xEA
      C := true, Z := true, D := true, B := true, V := true, N := true, nmiEdge := true }
    let t := resetCommand ((s.poke 0xFFFC 0x34).poke 0xFFFD 0x12)
    shows t 0x00 0x00 0x00 0xFF 0x24 0x1234 7 = true ∧ t.totalCycles = 107 ∧ t.opcode = 0xEA ∧
    t.nmiEdge = true := by decide

/-- R336: `RunCycles(3)` over two instructions of 2 cycles returns 4, and `RunCycles(0)` makes no step. -/
theorem test_run_cycles :
    (match runCycles 3 ((start.poke 0x0600 0xEA).poke 0x0601 0xEA) with
      | .next (e, t) => e == 4 && t.PC == 0x0602 && t.totalCycles == 4
      | _ => false) = true ∧
    (match runCycles 0 start with
      | .next (e, t) => e == 0 && t == start
      | _ => false) = true := by decide

/-- A word placed for the next step is the instruction that it runs, first after reset. -/
theorem test_with_fetch_word :
    (nextOf (step (State.reset.withFetchWord 16 0x42A9))).A = 0x42 ∧
    (nextOf (step (State.reset.withFetchWord 24 0x02006C))).opcode = 0x6C ∧
    (nextOf (step (({ State.reset with
      nmiEdge := true, PC := 0x0600
      cfg := { Config.default with memSize := 0x10 } } : State).withFetchWord 8 0xE8))).X = 0x01 := by decide

/-- A machine whose bus an injected provider answers (R62). -/
def injected : State := { start with cfg := { Config.default with provider := .injected 7 }, providerState := 5 }

/-- R62: `LDA abs` loads the byte that the injected provider answers, and leaves the provider in
the state that this read gives, whatever the default provider's memory lists. -/
theorem test_injected_read :
    let s : State := { injected with mem := [(0x1234, 0x42)] }
    let r := injectedRead 7 5 0x1234
    (exec (.ldaAbs 0x1234) s) = .next (nextOf (exec (.ldaAbs 0x1234) s)) ∧
    (nextOf (exec (.ldaAbs 0x1234) s)).A = r.1 ∧ (nextOf (exec (.ldaAbs 0x1234) s)).providerState = r.2 :=
  ⟨rfl, rfl, rfl⟩

/-- R62: `STA abs` hands the byte to the injected provider and stores nothing in the default provider's memory. -/
theorem test_injected_write :
    let s : State := { injected with A := 0x42 }
    (nextOf (exec (.staAbs 0x1234) s)).providerState = injectedWrite 7 5 0x1234 0x42 ∧
    (nextOf (exec (.staAbs 0x1234) s)).mem = [] := ⟨rfl, rfl⟩

/-- R62, R75: a step's opcode fetch is the injected provider's read at `PC`. -/
theorem test_injected_fetch : (fetchOpcode injected).2.opcode = (injectedRead 7 5 0x0600).1 ∧
    (fetchOpcode injected).2.providerState = (injectedRead 7 5 0x0600).2 := ⟨rfl, rfl⟩

/-- A word placed for the next step of a machine with an injected provider is the instruction that it runs. -/
theorem test_with_fetch_word_injected :
    (nextOf (step (injected.withFetchWord 16 0x42A9))).A = 0x42 := by decide

/-! ## Witnesses: each statement's hypotheses are met -/

/-- A machine in which only `0x0200` to `0x07FF` is backed. -/
def partly : State := { start with cfg := { Config.default with memBase := 0x0200, memSize := 0x0600 } }

theorem backed_default (a : Addr) : backed Config.default a = true := by
  have := a.isLt
  simp [backed, Config.default, this]

theorem stackBacked_of_default {s : State} (h : s.cfg = Config.default) : StackBacked s :=
  ⟨by rw [h]; rfl, fun b => by rw [h]; exact backed_default _⟩

theorem witness_EncodeOfDecode :
    decode [0xA9, 0x42] = .instr (.ldaImm 0x42) [] ∧ decode [0x20, 0xFF, 0xFF, 0x00] = .instr (.jsr 0xFFFF) [0x00] := by
  decide

theorem witness_DecodingIsTotal : 0 < operandCount 0xA9 ∧ 1 < operandCount 0x8D := by decide

theorem witness_DuplicateEncodings :
    documented (Instr.ldaImm 0x42).opcode = true ∧
    (∀ o ∈ opcodesFor (Instr.nopZp44 0x10).operation (Instr.nopZp44 0x10).operand.mode, documented o = false) := by
  decide

theorem witness_MemoryReadAfterWrite :
    start.wellFormed = true ∧ backed start.cfg 0x0000 = true ∧ backed start.cfg 0xFFFF = true ∧
    start.cfg.provider = .default ∧ partly.cfg.provider = .default ∧
    partly.wellFormed = true ∧ backed partly.cfg 0x01FF = false ∧ backed partly.cfg 0x0200 = true ∧
    backed partly.cfg 0x07FF = true ∧ backed partly.cfg 0x0800 = false ∧ (0x0201 : Addr) ≠ 0x0200 := by decide

theorem witness_StackPushesAndPulls :
    start.wellFormed = true ∧ State.wellFormed { start with S := 0x00 } = true ∧ start.cfg.provider = .default ∧
    (0x0100 : Addr) = stackAddr (low (start.S.toNat + 1)) ∧ (0x0101 : Addr) = stackAddr (low (start.S.toNat + 2)) ∧
    (0x0000 : Addr) = BitVec.ofNat 16 ((0xFFFF : Addr).toNat + 1) := by decide

/-- A pointer at `0xFF`, whose high byte comes from `0x00`; with `Y` it crosses a page. -/
theorem witness_ResolverAddresses :
    let s : State := { (start.poke 0xFF 0xF0).poke 0x00 0x12 with Y := 0x20 }
    (0x12F0 : Addr) = word
      (readAfter s [.read (BitVec.ofNat 16 (0xFF : Byte).toNat)] (BitVec.ofNat 16 (((0xFF : Byte).toNat + 1) % 256)))
      (s.peek (BitVec.ofNat 16 (0xFF : Byte).toNat)) := by decide

theorem witness_LoadsSetRegisterAndFlags :
    (Instr.ldaAbx 0x12F0).operation = .lda ∧ (Instr.ldxZpy 0xF0).operation = .ldx ∧
    (Instr.ldyImm 0xFF).operation = .ldy := by decide

theorem witness_LoadAccumulatorAndX : (Instr.laxIzy 0xFF).operation = .lax := by decide

theorem witness_StoresWriteOneByte :
    start.wellFormed = true ∧ partly.wellFormed = true ∧ (Instr.staIzy 0xFF).operation = .sta ∧
    (Instr.stxZpy 0xFF).operation = .stx ∧ (Instr.styAbs 0x1234).operation = .sty := by decide

theorem witness_UndocumentedStores :
    start.wellFormed = true ∧ partly.wellFormed = true ∧ (Instr.saxZpy 0xFF).operation = .sax := by decide

theorem witness_PushInstructions :
    start.wellFormed = true ∧ State.wellFormed { start with S := 0x00, B := false } = true := by decide

theorem witness_PullInstructions :
    (0x0100 : Addr) = stackAddr (low (start.S.toNat + 1)) ∧
    (0x01FF : Addr) = stackAddr (low ({ start with S := 0xFE } : State).S.toNat.succ) := by decide

theorem witness_AddWithCarry :
    (Instr.adcImm 0x01).operation = .adc ∧ (Instr.adcIzy 0x10).operation = .adc := by decide

theorem witness_SubtractWithBorrow :
    (Instr.sbcImm 0x01).operation = .sbc ∧ (Instr.sbcImmEB 0x01).operation = .sbc := by decide

theorem witness_ComparesSetFlags :
    (Instr.cmpIzx 0x10).operation = .cmp ∧ (Instr.cpxImm 0x05).operation = .cpx ∧
    (Instr.cpyAbs 0x1234).operation = .cpy := by decide

theorem witness_LogicOnAccumulator :
    (Instr.andAby 0x12F0).operation = .and ∧ (Instr.oraZpx 0xF0).operation = .ora ∧
    (Instr.eorImm 0xFF).operation = .eor := by decide

theorem witness_BitTest : (Instr.bitZp 0x10).operation = .bit ∧ (Instr.bitAbs 0x0200).operation = .bit := by decide

theorem witness_IncrementAndDecrementMemory :
    start.wellFormed = true ∧ partly.wellFormed = true ∧ (Instr.incZp 0x10).operation = .inc ∧
    (Instr.decAbx 0x12F0).operation = .dec := by decide

theorem witness_ShiftsAndRotates :
    start.wellFormed = true ∧ partly.wellFormed = true ∧ Instr.aslAcc.operation = .asl ∧
    (Instr.lsrZpx 0xF0).operation = .lsr ∧ (Instr.rolAbs 0x0200).operation = .rol ∧
    (Instr.rorAbx 0x20FF).operation = .ror := by decide

/-- The pointer ends in `0xFF` with the defect on and off, at the top of memory, and ends otherwise. -/
theorem witness_IndirectJump :
    let hi := fun (bug : Bool) (p : Addr) =>
      if bug = true ∧ p.toNat % 256 = 255 then BitVec.ofNat 16 (p.toNat - 255) else BitVec.ofNat 16 (p.toNat + 1)
    (0x1000 : Addr) = hi true 0x10FF ∧ (0x1100 : Addr) = hi false 0x10FF ∧ (0x0000 : Addr) = hi false 0xFFFF ∧
    (0xFF00 : Addr) = hi true 0xFFFF ∧ (0x10FF : Addr) = hi true 0x10FE := by decide

theorem witness_JumpsAndSubroutines :
    start.wellFormed = true ∧ 0x05FF = (start.PC.toNat + 65535) % 65536 ∧
    65535 = (({ start with PC := 0x0000 } : State).PC.toNat + 65535) % 65536 ∧
    (0x0100 : Addr) = stackAddr (start.S + 1) ∧ (0x0101 : Addr) = stackAddr (start.S + 2) := by decide

/-- A JSR at the wrap of the stack page, and the state it leaves. -/
theorem witness_SubroutineReturnsAfterCall :
    ∃ s t u : State, s.S = 0x00 ∧ s.wellFormed = true ∧ StackBacked s ∧ exec (.jsr 0x0700) s = .next t ∧
      u.cfg.provider = .default ∧ u.S = t.S ∧
      u.peek (stackAddr s.S) = t.peek (stackAddr s.S) ∧
      u.peek (stackAddr (s.S - 1)) = t.peek (stackAddr (s.S - 1)) ∧ u.A ≠ t.A :=
  ⟨{ start with S := 0x00, PC := 0x0603 }, _,
    { nextOf (exec (.jsr 0x0700) { start with S := 0x00, PC := 0x0603 }) with A := 0x55 },
    rfl, by decide, stackBacked_of_default rfl, rfl, rfl, rfl, by decide, by decide, by decide⟩

theorem witness_ConditionalBranches :
    (Instr.bpl 0x80).operand = .rel 0x80 ∧ (Instr.beq 0x7F).operand = .rel 0x7F ∧
    branchTaken (Instr.bpl 0x80).operation start = some true ∧
    branchTaken (Instr.beq 0x7F).operation start = some false := by decide

theorem witness_ShiftThenLogic :
    start.wellFormed = true ∧ partly.wellFormed = true ∧ (Instr.sloIzx 0x20).operation = .slo ∧
    (Instr.rlaAby 0x20FF).operation = .rla ∧ (Instr.sreZp 0x10).operation = .sre := by decide

theorem witness_ModifyThenArithmetic :
    start.wellFormed = true ∧ partly.wellFormed = true ∧ (Instr.rraAby 0x20FF).operation = .rra ∧
    (Instr.dcpAbx 0x20FF).operation = .dcp ∧ (Instr.iscIzy 0x10).operation = .isc := by decide

theorem witness_ImmediateCombinations :
    (Instr.ancImm0B 0xF0).operation = .anc ∧ (Instr.ancImm2B 0x0F).operation = .anc ∧
    (Instr.alrImm 0x03).operation = .alr ∧ (Instr.arrImm 0xFF).operation = .arr ∧
    (Instr.xaaImm 0x0F).operation = .xaa ∧ (Instr.axsImm 0x01).operation = .axs := by decide

theorem witness_UndocumentedNops :
    (Instr.nopAbx1C 0x12F0).operation = .nop ∧ Instr.nopImp1A.operation = .nop ∧
    (Instr.nopImm80 0xFF).operation = .nop := by decide

theorem witness_HaltOpcodesStayInPlace :
    Instr.kil02.operation = .kil ∧ Instr.kilAB.operation = .kil ∧
    (start.poke 0x0600 0xBB).cfg.provider = .default ∧ (start.poke 0x0600 0xBB).nmiEdge = false ∧
    (start.poke 0x0600 0xBB).peek (start.poke 0x0600 0xBB).PC ∈ haltOpcodes := by
  decide

theorem witness_BreakEntersHandler :
    start.wellFormed = true ∧ 0x0601 = (start.PC.toNat + 1) % 65536 ∧
    0 = (({ start with PC := 0xFFFF } : State).PC.toNat + 1) % 65536 ∧ start.cfg.provider = .default := by decide

theorem witness_ReturnFromInterrupt :
    (0x0100 : Addr) = stackAddr (start.S + 1) ∧ (0x0101 : Addr) = stackAddr (start.S + 2) ∧
    (0x0102 : Addr) = stackAddr (start.S + 3) := by decide

theorem witness_NmiServicePreemptsTheStep :
    (triggerNmi start).wellFormed = true ∧ (triggerNmi start).nmiEdge = true ∧
    (triggerNmi start).cfg.provider = .default := by decide

/-- The service of an NMI, with the stack at its wrap and `B` and the flags set. -/
theorem witness_InterruptReturnRestoresContext_nmi :
    ∃ s t u : State, s.wellFormed = true ∧ StackBacked s ∧ s.nmiEdge = true ∧ step s = .next t ∧
      u.cfg.provider = .default ∧ u.S = t.S ∧
      u.peek (stackAddr s.S) = t.peek (stackAddr s.S) ∧
      u.peek (stackAddr (s.S - 1)) = t.peek (stackAddr (s.S - 1)) ∧
      u.peek (stackAddr (s.S - 2)) = t.peek (stackAddr (s.S - 2)) ∧ u.D ≠ t.D :=
  ⟨{ start with S := 0x01, nmiEdge := true, B := true, N := true }, _,
    { nextOf (step { start with S := 0x01, nmiEdge := true, B := true, N := true }) with D := true },
    by decide, stackBacked_of_default rfl, rfl, rfl, rfl, rfl, by decide, by decide, by decide, by decide⟩

/-- A BRK, and a handler that has changed a register. -/
theorem witness_InterruptReturnRestoresContext_brk :
    ∃ s t u : State, s.wellFormed = true ∧ StackBacked s ∧ exec .brk s = .next t ∧ u.cfg.provider = .default ∧ u.S = t.S ∧
      u.peek (stackAddr s.S) = t.peek (stackAddr s.S) ∧
      u.peek (stackAddr (s.S - 1)) = t.peek (stackAddr (s.S - 1)) ∧
      u.peek (stackAddr (s.S - 2)) = t.peek (stackAddr (s.S - 2)) ∧ u.X ≠ t.X :=
  ⟨start, _, { nextOf (exec .brk start) with X := 0x01 },
    by decide, stackBacked_of_default rfl, rfl, rfl, rfl, by decide, by decide, by decide, by decide⟩

theorem witness_StepRunsDecodedInstruction :
    (start.pokeBytes 0x0600 [0x8D, 0x00, 0x02]).nmiEdge = false ∧
    decode (nextBytes (start.pokeBytes 0x0600 [0x8D, 0x00, 0x02])) = .instr (.staAbs 0x0200) [] ∧
    decode (nextBytes start) = .instr .brk [0x00, 0x00] := by decide

theorem witness_StepKeepsStateWellFormed :
    ∃ s t : State, s.wellFormed = true ∧ step s = .next t ∧ t.mem ≠ s.mem :=
  ⟨start, _, by decide, rfl, by decide⟩

theorem witness_HostCommandsKeepStateWellFormed :
    start.wellFormed = true ∧ (hostCommand (.writeA 0x1FF) start).A = 0xFF ∧
    (hostCommand (.writePC 0x12345) start).PC = 0x2345 := by decide

theorem witness_StepCostIsCharged :
    start.wellFormed = true ∧ start.nmiEdge = false ∧ (triggerNmi start).nmiEdge = true := by decide

theorem witness_RunCyclesReachesItsTarget :
    State.wellFormed { start with cfg := { Config.default with killCycles := 8 } } = true ∧
    ({ start with cfg := { Config.default with killCycles := 8 } } : State).cfg.killCycles ≤ 8 ∧
    (0 : Int) ≤ 0 ∧ (0 : Int) < 1 := by decide

theorem witness_ObserversDecideNothing :
    ∃ s t s' t' : State, s ≠ t ∧ forgetObservers s = forgetObservers t ∧ step s = .next s' ∧ step t = .next t' :=
  ⟨start, { start with opcode := 0x02, cycles := 5, totalCycles := 9, status := .halted, bus := [.read 0x0000] }, _, _,
    by decide, by decide, rfl, rfl⟩

/-- `I` differs in two runs of an ADC, and in two services of an NMI. -/
theorem witness_InterruptDisableGatesNothing :
    (∃ s s' t' : State, step s = .next s' ∧ step { s with I := true } = .next t' ∧ s.I = false ∧ s.nmiEdge = false ∧
      s.cfg.provider = .default ∧ (dispatchEntry (s.peek s.PC)).operation ≠ .php ∧
      (dispatchEntry (s.peek s.PC)).operation ≠ .brk) ∧
    ∃ s s' t' : State, step s = .next s' ∧ step { s with I := true } = .next t' ∧ s.I = false ∧ s.nmiEdge = true ∧
      s.cfg.provider = .default :=
  ⟨⟨start.poke 0x0600 0x69, _, _, rfl, rfl, by decide, by decide, by decide, by decide, by decide⟩,
    ⟨triggerNmi start, _, _, rfl, rfl, by decide, by decide, by decide⟩⟩

/-- `D` differs in two runs of an LDA, and in two services of an NMI. -/
theorem witness_DecimalFlagReadByAdditionsOnly :
    (∃ s s' t' : State, step s = .next s' ∧ step { s with D := true } = .next t' ∧ s.D = false ∧ s.nmiEdge = false ∧
      s.cfg.provider = .default ∧
      (dispatchEntry (s.peek s.PC)).operation ∉ ([.adc, .sbc, .rra, .isc] : List Operation) ∧
      (dispatchEntry (s.peek s.PC)).operation ≠ .php ∧ (dispatchEntry (s.peek s.PC)).operation ≠ .brk) ∧
    ∃ s s' t' : State, step s = .next s' ∧ step { s with D := true } = .next t' ∧ s.D = false ∧ s.nmiEdge = true ∧
      s.cfg.provider = .default :=
  ⟨⟨start.poke 0x0600 0xA9, _, _, rfl, rfl, by decide, by decide, by decide, by decide, by decide, by decide⟩,
    ⟨triggerNmi start, _, _, rfl, rfl, by decide, by decide, by decide⟩⟩

theorem witness_MemoryChangesOnlyByBusWrites :
    ∃ s t : State, s.wellFormed = true ∧ s.cfg.provider = .default ∧ step s = .next t ∧ writesOf t.bus ≠ [] :=
  ⟨start, _, by decide, rfl, rfl, by decide⟩

/-- Each register of the statement is changed by some instruction. -/
theorem witness_RegistersAreWrittenByTheirInstructionsOnly :
    (∃ t, exec (.ldaImm 0x42) start = .next t ∧ t.A ≠ start.A) ∧
    (∃ t, exec .lsrAcc { start with A := 0x02 } = .next t ∧ t.A ≠ 0x02) ∧
    (∃ t, exec .inx start = .next t ∧ t.X ≠ start.X) ∧ (∃ t, exec .dey start = .next t ∧ t.Y ≠ start.Y) ∧
    (∃ t, exec .pha start = .next t ∧ t.S ≠ start.S) ∧
    (∃ t, exec (.jmpAbs 0x1234) start = .next t ∧ t.PC ≠ start.PC) :=
  ⟨⟨_, rfl, by decide⟩, ⟨_, rfl, by decide⟩, ⟨_, rfl, by decide⟩, ⟨_, rfl, by decide⟩, ⟨_, rfl, by decide⟩,
    ⟨_, rfl, by decide⟩⟩

/-- Each flag of the statement is changed by some instruction. -/
theorem witness_FlagsAreWrittenByTheirInstructionsOnly :
    (∃ t, exec .sec start = .next t ∧ t.C ≠ start.C) ∧ (∃ t, exec (.ldaImm 0x00) start = .next t ∧ t.Z ≠ start.Z) ∧
    (∃ t, exec (.ldaImm 0x80) start = .next t ∧ t.N ≠ start.N) ∧ (∃ t, exec .sei start = .next t ∧ t.I ≠ start.I) ∧
    (∃ t, exec .sed start = .next t ∧ t.D ≠ start.D) ∧
    (∃ t, exec .plp (({ start with S := 0xFE } : State).poke 0x01FF 0x10) = .next t ∧ t.B ≠ start.B) ∧
    (∃ t, exec (.adcImm 0x7F) { start with A := 0x01 } = .next t ∧ t.V ≠ start.V) :=
  ⟨⟨_, rfl, by decide⟩, ⟨_, rfl, by decide⟩, ⟨_, rfl, by decide⟩, ⟨_, rfl, by decide⟩, ⟨_, rfl, by decide⟩,
    ⟨_, rfl, by decide⟩, ⟨_, rfl, by decide⟩⟩

/-- A machine with an injected provider, and one with the default. -/
theorem witness_InjectedProviderAnswersTheBus :
    injected.cfg.provider = .injected 7 ∧ start.cfg.provider = .default := by decide

end Sys2Proof.Tests
end

section
/-! PROOFS. The bus and the default memory provider (R7, R60 to R64). -/

namespace Sys2Proof.Proofs

open Sys2Proof.Machine

/-- Backed is the plain interval of R7, which is not taken modulo 65536. -/
theorem backed_eq_decide_interval (c : Config) (a : Addr) :
    backed c a = decide (c.memBase ≤ a.toNat ∧ a.toNat < c.memBase + c.memSize) :=
  (Bool.decide_and _ _).symm

/-- With the default parameters the interval holds all 65536 addresses (D20). -/
theorem backed_of_default_config (a : Addr) : backed Config.default a = true := by
  rw [backed_eq_decide_interval]
  have hbase : Config.default.memBase ≤ a.toNat := Nat.zero_le _
  have htop : a.toNat < Config.default.memBase + Config.default.memSize := a.isLt
  exact decide_eq_true ⟨hbase, htop⟩

/-- A bus read of the default provider gives what the address reads as, and only records itself (R63, R64). -/
theorem memRead_default {s : State} (hp : s.cfg.provider = .default) (a : Addr) :
    memRead a s = (if backed s.cfg a = true then s.mem.read a.toNat else s.cfg.fill,
      { s with bus := s.bus ++ [.read a] }) := by
  rw [memRead_eq, peek_default hp, afterRead_default hp]

/-- A bus write to the default provider changes memory, and only records itself beside that. -/
theorem memWrite_frame_default {s : State} (hp : s.cfg.provider = .default) (a : Addr) (v : Byte) :
    memWrite a v s = { s with mem := (memWrite a v s).mem, bus := s.bus ++ [.write a v] } := by
  rw [memWrite_eq, poke_default hp]

/-- A bus write outside the backed region is dropped (R63). -/
theorem memWrite_mem_of_not_backed {s : State} (hp : s.cfg.provider = .default) {a : Addr} (v : Byte)
    (hb : backed s.cfg a = false) : (memWrite a v s).mem = s.mem := by
  rw [memWrite_eq, poke_not_backed hp v hb]

/-- Settles O8: the clauses on reads after a write are those of the provider's own write, which the bus write
passes on (`memWrite_peek`). -/
theorem memoryReadAfterWrite : Obligations.MemoryReadAfterWrite := by
  intro s a b v hwf hp
  have hsame (hb : backed s.cfg a = true) : (memWrite a v s).peek a = v := by
    rw [memWrite_peek]
    exact peek_poke_same hp (memory_wf hwf) v hb
  have hother (hne : b ≠ a) : (memWrite a v s).peek b = s.peek b := by
    rw [memWrite_peek]
    exact peek_poke_other hp v hne
  exact ⟨backed_eq_decide_interval s.cfg a, backed_of_default_config a, memRead_default hp a, hsame,
    memWrite_mem_of_not_backed hp v, hother, memWrite_frame_default hp a v⟩

end Sys2Proof.Proofs
end

section
/-! PROOFS. One meaning for all instructions: what an operation does with its operand (R136, R339), and `exec` as the
one equation made of it. -/

namespace Sys2Proof.Proofs

open Sys2Proof.Machine

/-- What an operation does with its operand, apart from the bus accesses that every operation of its kind makes. -/
inductive Effect where
  /-- It reads the operand's value (R136); an undocumented NOP without one does nothing. -/
  | read (f : Byte → State → State)
  /-- It stores a value at the effective address. -/
  | store (value : Operand → State → Byte)
  /-- It reads, writes back the first component of `f`, and ends with `g` on the value written. -/
  | modify (f : Byte → State → Byte × State) (g : Byte → State → State)
  /-- It goes to the target when the condition holds (R244). -/
  | branch (cond : State → Bool)
  /-- Everything else. -/
  | other (f : Operand → State → State)

/-- The 16-bit word of an absolute operand (R92); 0 for the other operands. -/
def operandWord : Operand → Addr
  | .mem (.abs w) | .mem (.abx w) | .mem (.aby w) => w
  | _ => 0

/-- The target of a jump, with the state after its pointer reads (R240, R241). -/
def jumpTarget : Operand → State → Addr × State
  | .ind p, s => resolveIndirect p s
  | o, s => (operandWord o, s)

/-- JMP (R240, R241). -/
def jump (o : Operand) (s : State) : State := { (jumpTarget o s).2 with PC := (jumpTarget o s).1 }

/-- JSR (R242). -/
def call (w : Addr) (s : State) : State := { push16 (s.PC - 1) s with PC := w }

/-- RTS (R243). -/
def returnFromCall (s : State) : State := { (pull16 s).2 with PC := (pull16 s).1 + 1 }

/-- BRK (R353). -/
def breakIn (s : State) : State :=
  enterInterrupt brkVector (statusWithBreak s) { s with PC := s.PC + 1 }

/-- The effect of every operation. -/
def effect : Operation → Effect
  | .lda => .read loadA
  | .ldx => .read loadX
  | .ldy => .read loadY
  | .lax => .read loadAX
  | .sta => .store fun _ s => s.A
  | .stx => .store fun _ s => s.X
  | .sty => .store fun _ s => s.Y
  | .sax => .store fun _ s => s.A &&& s.X
  | .shx => .store fun o s => highByteMask s.X (operandWord o)
  | .shy => .store fun o s => highByteMask s.Y (operandWord o)
  | .tax => .other fun _ s => loadX s.A s
  | .tay => .other fun _ s => loadY s.A s
  | .txa => .other fun _ s => loadA s.X s
  | .tya => .other fun _ s => loadA s.Y s
  | .tsx => .other fun _ s => loadX s.S s
  | .txs => .other fun _ s => { s with S := s.X }
  | .pha => .other fun _ s => push8 s.A s
  | .php => .other fun _ s => push8 (statusWithBreak s) s
  | .pla => .other fun _ s => loadA (pull8 s).1 (pull8 s).2
  | .plp => .other fun _ s => unpackStatus (pull8 s).1 (pull8 s).2
  | .adc => .read addToA
  | .rra => .modify rotateRight addToA
  | .sbc => .read subtractFromA
  | .isc => .modify increment subtractFromA
  | .cmp => .read fun m s => compare s.A m s
  | .cpx => .read fun m s => compare s.X m s
  | .cpy => .read fun m s => compare s.Y m s
  | .dcp => .modify decrement fun m s => compare s.A m s
  | .axs => .read subtractIntoX
  | .and => .read andA
  | .ora => .read orA
  | .eor => .read xorA
  | .rla => .modify rotateLeft andA
  | .slo => .modify shiftLeft orA
  | .sre => .modify shiftRight xorA
  | .anc => .read andCopyN
  | .alr => .read andShiftRight
  | .arr => .read andRotateRight
  | .xaa => .read transferAnd
  | .bit => .read bitTest
  | .inc => .modify increment updateZN
  | .dec => .modify decrement updateZN
  | .inx => .other fun _ s => loadX (s.X + 1) s
  | .iny => .other fun _ s => loadY (s.Y + 1) s
  | .dex => .other fun _ s => loadX (s.X - 1) s
  | .dey => .other fun _ s => loadY (s.Y - 1) s
  | .asl => .modify shiftLeft updateZN
  | .lsr => .modify shiftRight updateZN
  | .rol => .modify rotateLeft updateZN
  | .ror => .modify rotateRight updateZN
  | .jmp => .other jump
  | .jsr => .other fun o s => call (operandWord o) s
  | .rts => .other fun _ s => returnFromCall s
  | .bpl => .branch fun s => !s.N
  | .bmi => .branch fun s => s.N
  | .bvc => .branch fun s => !s.V
  | .bvs => .branch fun s => s.V
  | .bcc => .branch fun s => !s.C
  | .bcs => .branch fun s => s.C
  | .bne => .branch fun s => !s.Z
  | .beq => .branch fun s => s.Z
  | .brk => .other fun _ s => breakIn s
  | .rti => .other fun _ s => returnFromInterrupt s
  | .clc => .other fun _ s => { s with C := false }
  | .sec => .other fun _ s => { s with C := true }
  | .cli => .other fun _ s => { s with I := false }
  | .sei => .other fun _ s => { s with I := true }
  | .cld => .other fun _ s => { s with D := false }
  | .sed => .other fun _ s => { s with D := true }
  | .clv => .other fun _ s => { s with V := false }
  | .nop => .read discard
  | .kil => .other fun _ s => { s with PC := s.PC - 1 }

/-- The state that an effect leaves on an operand, before the cost is charged. -/
def Effect.body : Effect → Operand → State → State
  | .read f, .imm v, s => f v s
  | .read f, .mem m, s =>
    let r := resolve m s
    let v := memRead r.1.addr r.2
    f v.1 v.2
  | .store value, .mem m, s =>
    let r := resolve m s
    memWrite r.1.addr (value (.mem m) s) r.2
  | .modify f g, .acc, s =>
    let w := f s.A s
    g w.1 { w.2 with A := w.1 }
  | .modify f g, .mem m, s =>
    let r := resolve m s
    let v := memRead r.1.addr r.2
    let w := f v.1 v.2
    g w.1 (memWrite r.1.addr w.1 w.2)
  | .branch cond, .rel r, s => if cond s then { s with PC := (resolveRelative r s).addr } else s
  | .other f, o, s => f o s
  | _, _, s => s

/-- The base cost of an opcode in the dispatch table (R98, R324). -/
def tableCost (op : Byte) (s : State) : Nat :=
  match (dispatchEntry op).base with
  | .fixed n    => n
  | .killCycles => s.cfg.killCycles

/-- The cost of an effect under an opcode, with the page cross of a branch as its resolver reports it (R331). -/
def Effect.cost (op : Byte) : Effect → Operand → State → Nat
  | .branch cond, .rel r, s => if cond s then 2 + (1 + (resolveRelative r s).crossed.toNat) else 2
  | _, o, s => tableCost op s + ((dispatchEntry op).eligible && Claims.operandCrosses o s).toNat

/-- The status an instruction reports (R337). -/
def stepStatus (o : Operation) : StepStatus := if o = .kil then .halted else .normal

/-- Every instruction is the effect of its operation on its operand, then the charge of its cost (R326, R327). -/
theorem exec_eq_charge_body (i : Instr) (s : State) :
    exec i s = .next (charge ((effect i.operation).cost i.opcode i.operand s)
      (stepStatus i.operation) ((effect i.operation).body i.operand s)) := by
  cases i
  case bpl r => exact branch_next (!s.N) r s
  case bmi r => exact branch_next s.N r s
  case bvc r => exact branch_next (!s.V) r s
  case bvs r => exact branch_next s.V r s
  case bcc r => exact branch_next (!s.C) r s
  case bcs r => exact branch_next s.C r s
  case bne r => exact branch_next (!s.Z) r s
  case beq r => exact branch_next s.Z r s
  all_goals
    dsimp only [Instr.opcode, Instr.operation, Instr.operand, Instr.parts]
    rfl

end Sys2Proof.Proofs
end

section
/-! PROOFS. What every instruction leaves unchanged: each effect is a chain of bus accesses and of a few parts, so a
relation that the bus accesses and the parts keep is kept by the whole instruction. -/

namespace Sys2Proof.Proofs

open Sys2Proof.Machine

/-- The changes of state that an effect is made of, apart from the bus accesses of its kind and from accumulator
mode's write of `A`. -/
inductive Effect.Part (o : Operand) : Effect → (State → State) → Prop
  | read (f : Byte → State → State) (v : Byte) : Part o (.read f) (f v)
  | result (f : Byte → State → Byte × State) (g : Byte → State → State) (v : Byte) :
      Part o (.modify f g) fun s => (f v s).2
  | finish (f : Byte → State → Byte × State) (g : Byte → State → State) (v : Byte) : Part o (.modify f g) (g v)
  | taken (cond : State → Bool) (a : Addr) : Part o (.branch cond) fun s => { s with PC := a }
  | other (f : Operand → State → State) : Part o (.other f) (f o)

/-- A relation of a state with a later one that holds along bus accesses. -/
structure KeptByBus (R : State → State → Prop) : Prop where
  refl  : ∀ s, R s s
  trans : ∀ {s t u}, R s t → R t u → R s u
  read  : ∀ a s, R s (memRead a s).2
  write : ∀ a v s, R s (memWrite a v s)

section
variable {R : State → State → Prop} (hR : KeptByBus R)
include hR

theorem KeptByBus.resolve (m : MemOperand) (s : State) : R s (resolve m s).2 := by
  cases m
  case izx z => exact hR.trans (hR.read _ s) (hR.read _ _)
  case izy z => exact hR.trans (hR.read _ s) (hR.read _ _)
  all_goals exact hR.refl s

/-- What the bus accesses, the parts and in accumulator mode the write of `A` keep, the instruction keeps. -/
theorem KeptByBus.body {e : Effect} {o : Operand} (hp : ∀ p, e.Part o p → ∀ s, R s (p s))
    (hacc : o = .acc → ∀ v s, R s { s with A := v }) (s : State) : R s (e.body o s) := by
  have hread (m : MemOperand) : R s (memRead (Machine.resolve m s).1.addr (Machine.resolve m s).2).2 :=
    hR.trans (hR.resolve m s) (hR.read _ _)
  cases e with
  | read f =>
    cases o with
    | imm v => exact hp _ (.read f v) s
    | mem m => exact hR.trans (hread m) (hp _ (.read f _) _)
    | _ => exact hR.refl s
  | store value =>
    cases o with
    | mem m => exact hR.trans (hR.resolve m s) (hR.write _ _ _)
    | _ => exact hR.refl s
  | modify f g =>
    have hfinish (v : Byte) (t : State) := hp _ (.finish f g v) t
    have hresult (v : Byte) (t : State) := hp _ (.result f g v) t
    cases o with
    | acc => exact hR.trans (hresult s.A s) (hR.trans (hacc rfl _ _) (hfinish _ _))
    | mem m => exact hR.trans (hread m) (hR.trans (hresult _ _) (hR.trans (hR.write _ _ _) (hfinish _ _)))
    | _ => exact hR.refl s
  | branch cond =>
    cases o with
    | rel r =>
      simp only [Effect.body]
      split
      · exact hp _ (.taken cond _) s
      · exact hR.refl s
    | _ => exact hR.refl s
  | other f => exact hp _ (.other f) s

end

end Sys2Proof.Proofs
end

section
/-! PROOFS. The registers and flags that each operation writes (R21, R22, R32 to R41), and that it writes no others. -/

namespace Sys2Proof.Proofs

open Sys2Proof.Machine

/-- The registers and the flags. -/
inductive StateField where
  | A | X | Y | S | PC | C | Z | I | D | B | V | N
deriving DecidableEq

/-- The type of a field's values. -/
def StateField.Value : StateField → Type
  | .A | .X | .Y | .S => Byte
  | .PC => Addr
  | .C | .Z | .I | .D | .B | .V | .N => Bool

/-- A field of a state. -/
def StateField.get : (f : StateField) → State → f.Value
  | .A, s => s.A
  | .X, s => s.X
  | .Y, s => s.Y
  | .S, s => s.S
  | .PC, s => s.PC
  | .C, s => s.C
  | .Z, s => s.Z
  | .I, s => s.I
  | .D, s => s.D
  | .B, s => s.B
  | .V, s => s.V
  | .N, s => s.N

/-- The registers and flags that an operation writes in modes other than accumulator mode (R21, R22, R32 to R41). -/
def writtenFields : Operation → List StateField
  | .lda | .txa | .tya | .and | .ora | .eor | .xaa => [.A, .Z, .N]
  | .ldx | .tax | .tsx | .inx | .dex => [.X, .Z, .N]
  | .ldy | .tay | .iny | .dey => [.Y, .Z, .N]
  | .lax => [.A, .X, .Z, .N]
  | .pla => [.A, .S, .Z, .N]
  | .sta | .stx | .sty | .sax | .shx | .shy | .nop => []
  | .txs | .pha | .php => [.S]
  | .plp => [.S, .C, .Z, .I, .D, .B, .V, .N]
  | .adc | .sbc | .rra | .isc | .arr => [.A, .C, .Z, .V, .N]
  | .cmp | .cpx | .cpy | .dcp | .asl | .lsr | .rol | .ror => [.C, .Z, .N]
  | .axs => [.X, .C, .Z, .N]
  | .slo | .rla | .sre | .anc | .alr => [.A, .C, .Z, .N]
  | .bit => [.Z, .V, .N]
  | .inc | .dec => [.Z, .N]
  | .jmp | .bpl | .bmi | .bvc | .bvs | .bcc | .bcs | .bne | .beq | .kil => [.PC]
  | .jsr | .rts => [.S, .PC]
  | .brk => [.S, .PC, .I]
  | .rti => [.S, .PC, .C, .Z, .I, .D, .B, .V, .N]
  | .clc | .sec => [.C]
  | .cli | .sei => [.I]
  | .cld | .sed => [.D]
  | .clv => [.V]

/-- `t` with the registers and flags outside `ws`, and what no instruction writes, taken from `s`. -/
def restored (ws : List StateField) (s t : State) : State :=
  { t with
    A  := if .A ∈ ws then t.A else s.A
    X  := if .X ∈ ws then t.X else s.X
    Y  := if .Y ∈ ws then t.Y else s.Y
    S  := if .S ∈ ws then t.S else s.S
    PC := if .PC ∈ ws then t.PC else s.PC
    C  := if .C ∈ ws then t.C else s.C
    Z  := if .Z ∈ ws then t.Z else s.Z
    I  := if .I ∈ ws then t.I else s.I
    D  := if .D ∈ ws then t.D else s.D
    B  := if .B ∈ ws then t.B else s.B
    V  := if .V ∈ ws then t.V else s.V
    N  := if .N ∈ ws then t.N else s.N
    opcode := s.opcode
    totalCycles := s.totalCycles
    nmiEdge := s.nmiEdge
    cfg := s.cfg }

/-- From `s` to `t` no register and no flag outside `ws` has changed, and neither has what no instruction writes. -/
structure Frame (ws : List StateField) (s t : State) : Prop where
  get         : ∀ f, f ∉ ws → f.get t = f.get s
  opcode      : t.opcode = s.opcode
  totalCycles : t.totalCycles = s.totalCycles
  nmiEdge     : t.nmiEdge = s.nmiEdge
  cfg         : t.cfg = s.cfg

theorem frame_of_restored {ws : List StateField} {s t : State} (h : t = restored ws s t) : Frame ws s t where
  get f hf := (congrArg f.get h).trans (by cases f <;> exact if_neg hf)
  opcode := (congrArg State.opcode h :)
  totalCycles := (congrArg State.totalCycles h :)
  nmiEdge := (congrArg State.nmiEdge h :)
  cfg := (congrArg State.cfg h :)

theorem Frame.mono {ws ws' : List StateField} {s t : State} (h : Frame ws s t) (hsub : ws ⊆ ws') : Frame ws' s t :=
  { h with get := fun f hf => h.get f fun hmem => hf (hsub hmem) }

theorem keptByBus_frame (ws : List StateField) : KeptByBus (Frame ws) where
  refl _ := ⟨fun _ _ => rfl, rfl, rfl, rfl, rfl⟩
  trans h k :=
    { get := fun f hf => (k.get f hf).trans (h.get f hf)
      opcode := k.opcode.trans h.opcode
      totalCycles := k.totalCycles.trans h.totalCycles
      nmiEdge := k.nmiEdge.trans h.nmiEdge
      cfg := k.cfg.trans h.cfg }
  read _ _ := ⟨fun f _ => by cases f <;> rfl, rfl, rfl, rfl, rfl⟩
  write _ _ _ := ⟨fun f _ => by cases f <;> rfl, rfl, rfl, rfl, rfl⟩

/-- The decimal flag chooses values in ADC, not fields. -/
theorem addToA_eq (m : Byte) (s : State) :
    addToA m s = updateZN (addBinary s.A m s.C).r { s with
      V := (addBinary s.A m s.C).ov
      A := if s.D then (addDecimal s.A m s.C).r else (addBinary s.A m s.C).r
      C := if s.D then (addDecimal s.A m s.C).cd else (addBinary s.A m s.C).cb } := by
  cases hD : s.D <;> simp [addToA, updateZN, hD]

theorem jump_eq (o : Operand) (s : State) :
    jump o s = { s with
      PC := (jumpTarget o s).1, providerState := (jump o s).providerState, bus := (jump o s).bus } := by
  cases o <;> rfl

/-- The parts of an operation write its fields and no others. -/
theorem frame_of_part {op : Operation} {o : Operand} {p : State → State} (hp : (effect op).Part o p) (s : State) :
    Frame (writtenFields op) s (p s) := by
  cases op <;> cases hp
  case adc.read m | rra.finish m => exact frame_of_restored (by rw [addToA_eq]; rfl)
  case jmp.other => exact frame_of_restored (by rw [jump_eq]; rfl)
  case brk.other =>
    obtain ⟨pc, bus, mem, ps, h⟩ := enterInterrupt_frame brkVector (statusWithBreak s) { s with PC := s.PC + 1 }
    exact frame_of_restored (by simp only [breakIn, h]; rfl)
  case rti.other =>
    obtain ⟨C, Z, I, D, B, V, N, pc, ps, bus, h⟩ := returnFromInterrupt_frame s
    exact frame_of_restored (by simp only [h]; rfl)
  all_goals exact frame_of_restored rfl

/-- The registers and flags that an instruction writes. -/
def writes (i : Instr) : List StateField :=
  (if i.operand = .acc then [.A] else []) ++ writtenFields i.operation

/-- An instruction's effect writes the instruction's fields and no others. -/
theorem body_frame (i : Instr) (s : State) : Frame (writes i) s ((effect i.operation).body i.operand s) := by
  refine (keptByBus_frame (writes i)).body (fun p hp s => ?_) (fun hacc v s => ?_) s
  · exact (frame_of_part hp s).mono (List.subset_append_right _ _)
  · have hA : Frame [.A] s { s with A := v } := frame_of_restored rfl
    exact hA.mono (by simp [writes, hacc])

/-- The end of an instruction that answers a next state, with its fields and its cost. -/
theorem exec_frame {i : Instr} {s t : State} (h : exec i s = .next t) :
    (∀ f, f ∉ writes i → f.get t = f.get s) ∧ t.opcode = s.opcode ∧ t.nmiEdge = s.nmiEdge ∧ t.cfg = s.cfg ∧
      s.totalCycles ≤ t.totalCycles := by
  rw [exec_eq_charge_body] at h
  cases h
  obtain ⟨hget, hop, htot, hnmi, hcfg⟩ := body_frame i s
  refine ⟨fun f hf => Eq.trans (by cases f <;> rfl) (hget f hf), hop, hnmi, hcfg, ?_⟩
  rw [charge_totalCycles, htot]
  exact Nat.le_add_right _ _

/-- A field that has changed is one that the instruction writes. -/
theorem mem_writes_of_ne {i : Instr} {s t : State} (h : exec i s = .next t) {f : StateField}
    (hne : f.get t ≠ f.get s) : f ∈ writes i :=
  by_contra fun hf => hne ((exec_frame h).1 f hf)

/-- What holds of the 72 operations by their numbers holds of all: a finite statement that `decide` checks. -/
theorem forall_operation {P : Operation → Prop} (h : ∀ n : Fin 72, P (Operation.ofNat n)) (op : Operation) :
    P op := by
  have hlt : op.ctorIdx < 72 := by cases op <;> decide
  exact op.ofNat_ctorIdx ▸ h ⟨op.ctorIdx, hlt⟩

/-- A field other than `A` has changed: the operation is in every list that holds the writers of that field. -/
theorem operation_mem_of_ne {i : Instr} {s t : State} (h : exec i s = .next t) (f : StateField)
    (hf : f ≠ .A) {l : List Operation}
    (hl : ∀ n : Fin 72, f ∈ writtenFields (Operation.ofNat n) → Operation.ofNat n ∈ l)
    (hne : f.get t ≠ f.get s) : i.operation ∈ l := by
  have hmem := mem_writes_of_ne h hne
  have hnot : f ∉ (if i.operand = .acc then [.A] else []) := by split <;> simp [hf]
  exact forall_operation (P := fun op => f ∈ writtenFields op → op ∈ l) hl i.operation
    ((List.mem_append.mp hmem).resolve_left hnot)

/-- Settles O57: a register that has changed is one of the fields of the operation (`mem_writes_of_ne`), and the table
of those fields agrees with the lists of R21. -/
theorem registersAreWrittenByTheirInstructionsOnly : Obligations.RegistersAreWrittenByTheirInstructionsOnly := by
  intro i s t h
  obtain ⟨-, hop, hnmi, hcfg, -⟩ := exec_frame h
  refine ⟨fun hne => ?_, operation_mem_of_ne h .X (by decide) (by decide),
    operation_mem_of_ne h .Y (by decide) (by decide), operation_mem_of_ne h .S (by decide) (by decide),
    operation_mem_of_ne h .PC (by decide) (by decide), hop, hnmi, hcfg⟩
  rcases List.mem_append.mp (mem_writes_of_ne h (f := .A) hne) with hacc | hmem
  · exact .inl (by_contra fun hn => by simp [hn] at hacc)
  · exact .inr (forall_operation (P := fun op => .A ∈ writtenFields op → op ∈ _) (by decide) i.operation hmem)

/-- Settles O58: as for the registers, with the lists of R32 to R41. -/
theorem flagsAreWrittenByTheirInstructionsOnly : Obligations.FlagsAreWrittenByTheirInstructionsOnly := by
  intro i s t h
  exact ⟨operation_mem_of_ne h .C (by decide) (by decide),
    fun hne => hne.elim (operation_mem_of_ne h .Z (by decide) (by decide))
      (operation_mem_of_ne h .N (by decide) (by decide)),
    operation_mem_of_ne h .I (by decide) (by decide), operation_mem_of_ne h .D (by decide) (by decide),
    operation_mem_of_ne h .B (by decide) (by decide), operation_mem_of_ne h .V (by decide) (by decide)⟩

end Sys2Proof.Proofs
end

section
/-! PROOFS. The invariant (R46, R63, R7): every instruction, every step and every command of the host keeps a state
well-formed. -/

namespace Sys2Proof.Proofs

open Sys2Proof.Machine

/-- With an NMI pending a step is its service (R321). -/
theorem step_of_nmi {s : State} (h : s.nmiEdge = true) : step s = .next (serviceNmi { s with bus := [] }) :=
  if_pos h

/-- Without one a step is the fetch of an instruction and its execution (R322 to R326). -/
theorem step_of_no_nmi {s : State} (h : s.nmiEdge = false) :
    step s = exec (fetchInstr { s with bus := [] }).1 (fetchInstr { s with bus := [] }).2 :=
  if_neg (by simp [h])

theorem keptByBus_wellFormed : KeptByBus fun s t => s.wellFormed = true → t.wellFormed = true where
  refl _ h := h
  trans h k := k ∘ h
  read _ _ h := (wellFormed_congr rfl rfl).trans h
  write a v _ h := wellFormed_memWrite h a v

theorem wellFormed_call {s : State} (h : s.wellFormed = true) (w : Addr) : (call w s).wellFormed = true := by
  have hpush : (call w s).wellFormed = (push16 (s.PC - 1) s).wellFormed := wellFormed_congr rfl rfl
  exact hpush.trans (wellFormed_push16 h _)

theorem wellFormed_breakIn {s : State} (h : s.wellFormed = true) : (breakIn s).wellFormed = true := by
  have hnext : ({ s with PC := s.PC + 1 } : State).wellFormed = true := (wellFormed_congr rfl rfl).trans h
  exact wellFormed_enterInterrupt hnext brkVector (statusWithBreak s)

/-- The parts of an operation that touch memory are pushes; the others leave memory and parameters alone. -/
theorem wellFormed_of_part {op : Operation} {o : Operand} {p : State → State} (hp : (effect op).Part o p) (s : State)
    (h : s.wellFormed = true) : (p s).wellFormed = true := by
  cases op <;> cases hp
  case pha.other | php.other => exact wellFormed_push8 h _
  case jsr.other => exact wellFormed_call h (operandWord o)
  case brk.other => exact wellFormed_breakIn h
  case rti.other => exact wellFormed_returnFromInterrupt h
  case adc.read m | rra.finish m => exact (wellFormed_congr (by rw [addToA_eq]; rfl) (by rw [addToA_eq]; rfl)).trans h
  case jmp.other => exact (wellFormed_congr (by rw [jump_eq]) (by rw [jump_eq])).trans h
  all_goals exact (wellFormed_congr rfl rfl).trans h

theorem wellFormed_exec {i : Instr} {s t : State} (hw : s.wellFormed = true) (h : exec i s = .next t) :
    t.wellFormed = true := by
  rw [exec_eq_charge_body] at h
  cases h
  refine (wellFormed_congr (charge_mem ..) (charge_cfg ..)).trans (keptByBus_wellFormed.body ?_ ?_ s hw)
  · exact fun p hp s => wellFormed_of_part hp s
  · exact fun _ _ _ h => (wellFormed_congr rfl rfl).trans h

/-- The fetch leaves memory, the parameters and the total of cycles. -/
theorem fetchInstr_keeps (s : State) :
    (fetchInstr s).2.mem = s.mem ∧ (fetchInstr s).2.cfg = s.cfg ∧ (fetchInstr s).2.totalCycles = s.totalCycles := by
  obtain ⟨pc, ps, bus, hf⟩ := fetchInstr_frame s
  rw [hf]
  exact ⟨rfl, rfl, rfl⟩

/-- The service of an NMI leaves the parameters and charges 7 cycles. -/
theorem serviceNmi_keeps (s : State) :
    (serviceNmi s).cfg = s.cfg ∧ (serviceNmi s).totalCycles = s.totalCycles + 7 := by
  obtain ⟨pc, bus, mem, ps, hi⟩ :=
    enterInterrupt_frame nmiVector (statusWithoutBreak { s with nmiEdge := false }) { s with nmiEdge := false }
  simp [serviceNmi, hi]

/-- Settles O48: the service of an NMI by the shared operations it is made of, an instruction by its parts. -/
theorem stepKeepsStateWellFormed : Obligations.StepKeepsStateWellFormed := by
  intro s t hw h
  have hw0 : ({ s with bus := [] } : State).wellFormed = true := (wellFormed_congr rfl rfl).trans hw
  cases hn : s.nmiEdge
  case true =>
    rw [step_of_nmi hn] at h
    cases h
    obtain ⟨hcfg, htot⟩ := serviceNmi_keeps { s with bus := [] }
    exact ⟨wellFormed_serviceNmi hw0, hcfg, Nat.le.intro htot.symm⟩
  case false =>
    rw [step_of_no_nmi hn] at h
    obtain ⟨hmem, hcfg, htot⟩ := fetchInstr_keeps { s with bus := [] }
    obtain ⟨-, -, -, hcfg', htot'⟩ := exec_frame h
    exact ⟨wellFormed_exec ((wellFormed_congr hmem hcfg).trans hw0) h, hcfg'.trans hcfg, htot ▸ htot'⟩

theorem wellFormed_resetCommand {s : State} (h : s.wellFormed = true) : (resetCommand s).wellFormed = true :=
  (wellFormed_congr rfl rfl).trans h

/-- The toggle changes no parameter that the invariant speaks of. -/
theorem wellFormed_setIndirectBug (b : Bool) (s : State) :
    ({ s with cfg := { s.cfg with indirectBug := b } } : State).wellFormed = s.wellFormed := rfl

theorem writeFlag_frame (f : FlagName) (b : Bool) (s : State) :
    (writeFlag f b s).mem = s.mem ∧ (writeFlag f b s).cfg = s.cfg ∧ (writeFlag f b s).opcode = s.opcode ∧
      (writeFlag f b s).totalCycles = s.totalCycles := by
  cases f <;> exact ⟨rfl, rfl, rfl, rfl⟩

/-- Every command of the host keeps the invariant. -/
theorem wellFormed_hostCommand (c : HostCommand) {s : State} (h : s.wellFormed = true) :
    (hostCommand c s).wellFormed = true := by
  cases c
  case reset => exact wellFormed_resetCommand h
  case writeFlag f b =>
    obtain ⟨hmem, hcfg, -, -⟩ := writeFlag_frame f b s
    exact (wellFormed_congr hmem hcfg).trans h
  case writeMemory a v => exact wellFormed_poke h _ _
  case setIndirectBug b => exact (wellFormed_setIndirectBug b s).trans h
  all_goals exact (wellFormed_congr rfl rfl).trans h

/-- Every command of the host but Reset leaves `opcode` and `totalCycles`, and Reset adds 7 (D7, D28). -/
theorem hostCommand_counters (c : HostCommand) (s : State) :
    (hostCommand c s).opcode = s.opcode ∧
      (hostCommand c s).totalCycles = s.totalCycles + (if c = .reset then 7 else 0) := by
  cases c
  case writeFlag f b =>
    obtain ⟨-, -, hop, htot⟩ := writeFlag_frame f b s
    exact ⟨hop, htot⟩
  all_goals exact ⟨rfl, rfl⟩

/-- Settles O50: the invariant by the command, the counters by `hostCommand_counters`, the masking by `toNat_ofNat`. -/
theorem hostCommandsKeepStateWellFormed : Obligations.HostCommandsKeepStateWellFormed := by
  intro c s hw
  obtain ⟨hop, htot⟩ := hostCommand_counters c s
  refine ⟨wellFormed_hostCommand c hw, hop, Nat.le.intro htot.symm, ?_, ?_, ?_, ?_, ?_⟩
  all_goals
    rintro v rfl
    exact BitVec.toNat_ofNat v _

/-- Settles O49. -/
theorem resetStateIsWellFormed : Obligations.ResetStateIsWellFormed := by
  constructor <;> decide

/-- Settles O45: every clause is the evaluation of a fixed state. -/
theorem constructionAndResetStates : Obligations.ConstructionAndResetStates := by
  unfold Obligations.ConstructionAndResetStates
  decide

end Sys2Proof.Proofs
end

section
/-! PROOFS. The instruction that a step runs: its operation is the one that the dispatch table names for the opcode
byte at `PC` (R96, R323). -/

namespace Sys2Proof.Proofs

open Sys2Proof.Machine

/-- The opcode matrix of the decoder and the dispatch table name the same operation in every cell (R96, R97). -/
theorem instrTable_operation (b : Byte) (w : Addr) (r c : Fin 16) :
    (instrTable b w)[r][c].operation = dispatchTable[r][c].operation := by
  fin_cases r <;> fin_cases c <;> rfl

theorem instrOf_operation (op b1 b2 : Byte) : (instrOf op b1 b2).operation = (dispatchEntry op).operation := by
  rw [instrOf, dispatchEntry]
  exact instrTable_operation b1 (wordOf b2 b1) (matrixRow op) (matrixColumn op)

/-- A step runs the operation that the table names for the byte at `PC` (R323). -/
theorem fetchInstr_operation (s : State) :
    (fetchInstr s).1.operation = (dispatchEntry (s.peek s.PC)).operation := by
  unfold fetchInstr
  dsimp only
  split <;> exact instrOf_operation _ _ _

end Sys2Proof.Proofs
end

section
/-! PROOFS. Runs of two states that differ only in `I`, in `D` or in what no rule reads (R34, R35, R43): the same bus
accesses and the same parts, one after the other, keep the difference. -/

namespace Sys2Proof.Proofs

open Sys2Proof.Machine

/-- A change of `I`, of `D`, and of what only the host reads. -/
structure Relabel where
  I           : Bool → Bool
  D           : Bool → Bool
  opcode      : Byte → Byte
  cycles      : Nat → Nat
  totalCycles : Nat → Nat
  status      : StepStatus → StepStatus

/-- The relabelling that changes no field. -/
def Relabel.same : Relabel := ⟨id, id, id, id, id, id⟩

def Relabel.apply (r : Relabel) (s : State) : State :=
  { s with
    I := r.I s.I, D := r.D s.D, opcode := r.opcode s.opcode, cycles := r.cycles s.cycles,
    totalCycles := r.totalCycles s.totalCycles, status := r.status s.status }

/-- A class of relabellings that an instruction can only narrow: it may write `I`, `D` and `opcode`. -/
structure Narrowing (C : Relabel → Prop) : Prop where
  I      : ∀ r, C r → C { r with I := id }
  D      : ∀ r, C r → C { r with D := id }
  opcode : ∀ r, C r → C { r with opcode := id }

/-- `t` is `s`, relabelled within a class. -/
def Related (C : Relabel → Prop) (s t : State) : Prop := ∃ r, C r ∧ t = r.apply s

/-! ### Shared operations on relabelled states -/

theorem push8_relabel (v : Byte) (r : Relabel) (s : State) : push8 v (r.apply s) = r.apply (push8 v s) := rfl

theorem push16_relabel (w : Addr) (r : Relabel) (s : State) : push16 w (r.apply s) = r.apply (push16 w s) := by
  simp only [push16, push8_relabel]

theorem pull8_relabel (r : Relabel) (s : State) : pull8 (r.apply s) = ((pull8 s).1, r.apply (pull8 s).2) := rfl

theorem pull16_relabel (r : Relabel) (s : State) : pull16 (r.apply s) = ((pull16 s).1, r.apply (pull16 s).2) := by
  simp only [pull16, pull8_relabel]

theorem unpackStatus_relabel (b : Byte) (r : Relabel) (s : State) :
    unpackStatus b (r.apply s) = { r with I := id, D := id }.apply (unpackStatus b s) := rfl

/-- The end of an interrupt's entry: `PC` is loaded from the vector (R353, R357). -/
def loadVector (vector : Addr) (s : State) : State := { (read16 vector s).2 with PC := (read16 vector s).1 }

theorem enterInterrupt_eq_loadVector (vector : Addr) (pushed : Byte) (s : State) :
    enterInterrupt vector pushed s = loadVector vector { push8 pushed (push16 s.PC s) with I := true } := rfl

theorem loadVector_relabel (vector : Addr) (r : Relabel) (s : State) :
    loadVector vector (r.apply s) = r.apply (loadVector vector s) := rfl

/-- Entering an interrupt sets `I`, whatever it was. -/
theorem enterInterrupt_relabel (vector : Addr) (pushed : Byte) (r : Relabel) (s : State) :
    enterInterrupt vector pushed (r.apply s) = { r with I := id }.apply (enterInterrupt vector pushed s) := by
  have hpush : push8 pushed (push16 (r.apply s).PC (r.apply s)) = r.apply (push8 pushed (push16 s.PC s)) := by
    rw [push16_relabel, push8_relabel]
    rfl
  rw [enterInterrupt_eq_loadVector, enterInterrupt_eq_loadVector, hpush]
  exact loadVector_relabel vector { r with I := id } { push8 pushed (push16 s.PC s) with I := true }

/-- BRK pushes the status byte, in which `I` and `D` stand. -/
theorem breakIn_relabel {r : Relabel} (hI : r.I = id) (hD : r.D = id) (s : State) :
    breakIn (r.apply s) = r.apply (breakIn s) := by
  obtain ⟨rI, rD, rop, rcyc, rtot, rst⟩ := r
  obtain rfl : rI = id := hI
  obtain rfl : rD = id := hD
  have hpushed (r : Relabel) (hI : r.I = id) (hD : r.D = id) : statusWithBreak (r.apply s) = statusWithBreak s := by
    simp [statusWithBreak, packStatus, Relabel.apply, hI, hD]
  rw [breakIn, hpushed _ rfl rfl]
  exact enterInterrupt_relabel brkVector (statusWithBreak s) ⟨id, id, rop, rcyc, rtot, rst⟩
    { s with PC := s.PC + 1 }

theorem returnFromInterrupt_relabel (r : Relabel) (s : State) :
    returnFromInterrupt (r.apply s) = { r with I := id, D := id }.apply (returnFromInterrupt s) := by
  simp only [returnFromInterrupt, pull8_relabel, unpackStatus_relabel, pull16_relabel]
  rfl

/-! ### Effects on relabelled states -/

/-- The values that decide how an effect goes on: the byte stored or written back, the condition of a branch. -/
def Effect.seen : Effect → Operand → Byte → State → Byte × Bool
  | .store value, o, _, s => (value o s, false)
  | .modify f _, _, v, s => ((f v s).1, false)
  | .branch cond, _, _, s => (0, cond s)
  | _, _, _, _ => (0, false)

theorem effect_seen_relabel (op : Operation) (o : Operand) (v : Byte) (r : Relabel) (s : State) :
    (effect op).seen o v (r.apply s) = (effect op).seen o v s := by
  cases op <;> rfl

/-- The operations that read `D` (R191). -/
abbrev decimalReaders : List Operation := [.adc, .sbc, .rra, .isc]

/-- The operations that push the status byte, and with it `I` and `D` (R166, R353). -/
abbrev statusPushers : List Operation := [.php, .brk]

section
variable {C : Relabel → Prop} (hC : Narrowing C)
include hC

/-- A part keeps two states related, where it reads `I` or `D` only if they agree. -/
theorem Narrowing.part {op : Operation} {o : Operand} {p : State → State} (hp : (effect op).Part o p)
    (hdec : op ∈ decimalReaders → ∀ r, C r → r.D = id)
    (hpush : op ∈ statusPushers → ∀ r, C r → r.I = id ∧ r.D = id) {s t : State} (h : Related C s t) :
    Related C (p s) (p t) := by
  obtain ⟨r, hr, rfl⟩ := h
  have hclear := hC.D _ (hC.I _ hr)
  have hI := fun hop => (hpush hop r hr).1
  have hD := fun hop => (hpush hop r hr).2
  have hdec := fun hop => hdec hop r hr
  obtain ⟨rI, rD, rop, rcyc, rtot, rst⟩ := r
  cases op <;> cases hp
  case adc.read m | rra.finish m =>
    obtain rfl : rD = id := hdec (by decide)
    exact ⟨_, hr, by simp only [addToA_eq]; rfl⟩
  case sbc.read m | isc.finish m =>
    obtain rfl : rD = id := hdec (by decide)
    exact ⟨_, hr, rfl⟩
  case php.other =>
    obtain rfl : rI = id := hI (by decide)
    obtain rfl : rD = id := hD (by decide)
    exact ⟨_, hr, rfl⟩
  case brk.other => exact ⟨_, hr, breakIn_relabel (hI (by decide)) (hD (by decide)) s⟩
  case cli.other | sei.other => exact ⟨_, hC.I _ hr, rfl⟩
  case cld.other | sed.other => exact ⟨_, hC.D _ hr, rfl⟩
  case plp.other => exact ⟨_, hclear, rfl⟩
  case rti.other => exact ⟨_, hclear, returnFromInterrupt_relabel _ s⟩
  case jmp.other => exact ⟨_, hr, by cases o <;> rfl⟩
  all_goals exact ⟨_, hr, rfl⟩

end

section
variable {C : Relabel → Prop} {s t : State} (h : Related C s t)
include h

theorem Related.memRead (a : Addr) :
    (memRead a t).1 = (memRead a s).1 ∧ Related C (memRead a s).2 (memRead a t).2 := by
  obtain ⟨r, hr, rfl⟩ := h
  exact ⟨rfl, r, hr, rfl⟩

theorem Related.memWrite (a : Addr) (v : Byte) : Related C (memWrite a v s) (memWrite a v t) := by
  obtain ⟨r, hr, rfl⟩ := h
  exact ⟨r, hr, rfl⟩

theorem Related.resolve (m : MemOperand) :
    (resolve m t).1 = (resolve m s).1 ∧ Related C (resolve m s).2 (resolve m t).2 := by
  obtain ⟨r, hr, rfl⟩ := h
  exact ⟨by cases m <;> rfl, r, hr, by cases m <;> rfl⟩

theorem Related.setA (v : Byte) : Related C { s with A := v } { t with A := v } := by
  obtain ⟨r, hr, rfl⟩ := h
  exact ⟨r, hr, rfl⟩

theorem Related.A : t.A = s.A := by
  obtain ⟨r, -, rfl⟩ := h
  rfl

theorem Related.relative (o : Byte) : resolveRelative o t = resolveRelative o s := by
  obtain ⟨r, -, rfl⟩ := h
  rfl

theorem Related.seen (op : Operation) (o : Operand) (v : Byte) :
    (effect op).seen o v t = (effect op).seen o v s := by
  obtain ⟨r, -, rfl⟩ := h
  exact effect_seen_relabel op o v r s

/-- Two related states pay the same for an instruction. -/
theorem Related.cost (op : Operation) (b : Byte) (o : Operand) :
    (effect op).cost b o t = (effect op).cost b o s := by
  have hcond (c : State → Bool) (he : effect op = .branch c) : c t = c s := by
    simpa [he, Effect.seen] using h.seen op o 0
  have htable : tableCost b t = tableCost b s := by
    obtain ⟨r, -, rfl⟩ := h
    rfl
  have hcross : Claims.operandCrosses o t = Claims.operandCrosses o s := by
    cases o with
    | mem m => exact congrArg Resolved.crossed (h.resolve m).1
    | _ => rfl
  cases he : effect op with
  | branch c => cases o <;> simp [Effect.cost, hcond c he, h.relative, htable, hcross]
  | _ => simp only [Effect.cost, htable, hcross]

/-- An instruction keeps two states related if its parts do. -/
theorem Related.body {op : Operation} {o : Operand}
    (hpart : ∀ p, (effect op).Part o p → ∀ {s t}, Related C s t → Related C (p s) (p t)) :
    Related C ((effect op).body o s) ((effect op).body o t) := by
  have hseen {s t : State} (h : Related C s t) (v : Byte) := h.seen op o v
  generalize effect op = e at hpart hseen ⊢
  cases e with
  | read f =>
    cases o with
    | imm v => exact hpart _ (.read f v) h
    | mem m =>
      obtain ⟨haddr, hres⟩ := h.resolve m
      obtain ⟨hread, hrel⟩ := hres.memRead (Machine.resolve m s).1.addr
      simp only [Effect.body, haddr, hread]
      exact hpart _ (.read f _) hrel
    | _ => exact h
  | store value =>
    cases o with
    | mem m =>
      have hval : value (.mem m) t = value (.mem m) s := congrArg Prod.fst (hseen h 0)
      obtain ⟨haddr, hres⟩ := h.resolve m
      simp only [Effect.body, haddr, hval]
      exact hres.memWrite _ _
    | _ => exact h
  | modify f g =>
    have hval {s t : State} (h : Related C s t) (v : Byte) : (f v t).1 = (f v s).1 :=
      (congrArg Prod.fst (hseen h v) :)
    cases o with
    | acc =>
      simp only [Effect.body, h.A, hval h]
      exact hpart _ (.finish f g _) ((hpart _ (.result f g _) h).setA _)
    | mem m =>
      obtain ⟨haddr, hres⟩ := h.resolve m
      obtain ⟨hread, hrel⟩ := hres.memRead (Machine.resolve m s).1.addr
      simp only [Effect.body, haddr, hread, hval hrel]
      exact hpart _ (.finish f g _) ((hpart _ (.result f g _) hrel).memWrite _ _)
    | _ => exact h
  | branch cond =>
    cases o with
    | rel r =>
      have hcond : cond t = cond s := congrArg Prod.snd (hseen h 0)
      simp only [Effect.body, hcond, h.relative]
      split
      · exact hpart _ (.taken cond _) h
      · exact h
    | _ => exact h
  | other f => exact hpart _ (.other f) h

end

end Sys2Proof.Proofs
end

section
/-! PROOFS. What memory reads as after bus accesses (R63, R64), and the stack operations as bus accesses (R28 to R30,
R66). -/

namespace Sys2Proof.Proofs

open Sys2Proof.Machine Sys2Proof.Claims

/-! ## Reads after accesses -/

@[simp] theorem after_cfg (s : State) (acc : List BusAccess) : (s.after acc).cfg = s.cfg := by
  rw [after_frame]

/-- With the default provider, after accesses an address reads as after the writes among them (R64). -/
theorem peek_after {s : State} (hp : s.cfg.provider = .default) (hw : s.wellFormed = true) (acc : List BusAccess)
    (a : Addr) : (s.after acc).peek a = byteAfter s (writesOf acc) a := by
  induction acc generalizing s with
  | nil => rfl
  | cons x acc ih =>
    cases x with
    | read b =>
      rw [after_cons, access_read, afterRead_default hp]
      exact ih hp hw
    | write b v =>
      rw [after_cons, access_write, ih (s := s.poke b v) hp (wellFormed_poke hw b v)]
      simp only [byteAfter, writesOf, List.filterMap_cons, List.foldl_cons, State.poke_cfg, peek_poke hp (memory_wf hw)]
      congr 1

/-- An address that no access writes reads as before. -/
theorem peek_after_of_not_written {s : State} (hp : s.cfg.provider = .default) {acc : List BusAccess} {a : Addr}
    (ha : ∀ w ∈ writesOf acc, w.1 ≠ a) : (s.after acc).peek a = s.peek a := by
  induction acc generalizing s with
  | nil => rfl
  | cons x acc ih =>
    cases x with
    | read b =>
      rw [after_cons, access_read, afterRead_default hp]
      exact ih hp ha
    | write b v =>
      obtain ⟨hb, hacc⟩ := List.forall_mem_cons.mp (show ∀ w ∈ (b, v) :: writesOf acc, w.1 ≠ a from ha)
      rw [after_cons, access_write, ih (s := s.poke b v) hp hacc]
      exact peek_poke_other hp v hb.symm

/-- The store clause of a state that the accesses `acc` have made of `s`, whatever they have made of the registers. -/
theorem stores_of_accessed {s t : State} (hw : s.wellFormed = true) (acc : List BusAccess)
    (hmem : t.mem = (s.after acc).mem) (hprov : t.providerState = (s.after acc).providerState)
    (hcfg : t.cfg = s.cfg) : Stores s t (writesOf acc) := by
  intro hp a
  rw [peek_congr hmem hprov (hcfg.trans (after_cfg s acc).symm) a]
  exact peek_after hp hw acc a

/-! ## The stack -/

theorem stackAddr_ne_of_le {a : Addr} (ha : 0x200 ≤ a.toNat) (sp : Byte) : stackAddr sp ≠ a := by
  rintro rfl
  have := sp.isLt
  have := stackAddr_toNat sp
  omega

/-- One less, modulo 256, as a sum. -/
theorem sub_one_eq_low (b : Byte) : b - 1 = low (b.toNat + 255) := by
  unfold low; bv_omega

theorem sub_two_eq_low (b : Byte) : b - 1 - 1 = low (b.toNat + 254) := by
  unfold low; bv_omega

theorem add_one_eq_low (b : Byte) : b + 1 = low (b.toNat + 1) := by
  unfold low; bv_omega

theorem add_two_eq_low (b : Byte) : b + 1 + 1 = low (b.toNat + 2) := by
  unfold low; bv_omega

/-- The record of accesses, one appended after the other, as the bus operations append it. -/
theorem accessed_eq_foldl (acc : List BusAccess) (s : State) :
    accessed acc s = { s.after acc with bus := acc.foldl (fun l x => l ++ [x]) s.bus } := by
  rw [accessed, List.foldl_append_eq_append, ← List.flatMap_def, List.flatMap_singleton']

theorem push8_eq_accessed (v : Byte) (s : State) :
    push8 v s = { accessed [.write (stackAddr s.S) v] s with S := s.S - 1 } := rfl

theorem pull8_eq_accessed (s : State) :
    pull8 s = (s.peek (stackAddr (s.S + 1)), { accessed [.read (stackAddr (s.S + 1))] s with S := s.S + 1 }) := rfl

theorem push16_eq_accessed (w : Addr) (s : State) :
    push16 w s = { accessed [.write (stackAddr s.S) (low (w.toNat / 256)), .write (stackAddr (s.S - 1)) (low w.toNat)] s
      with S := s.S - 1 - 1 } := by
  rw [accessed_eq_foldl]
  rfl

theorem pull16_eq_accessed (s : State) :
    pull16 s = (word (readAfter s [.read (stackAddr (s.S + 1))] (stackAddr (s.S + 1 + 1)))
        (s.peek (stackAddr (s.S + 1))),
      { accessed [.read (stackAddr (s.S + 1)), .read (stackAddr (s.S + 1 + 1))] s with S := s.S + 1 + 1 }) := by
  rw [accessed_eq_foldl]
  rfl

theorem read16_eq_accessed (a : Addr) (s : State) :
    read16 a s = (word (readAfter s [.read a] (a + 1)) (s.peek a), accessed [.read a, .read (a + 1)] s) := by
  rw [accessed_eq_foldl]
  rfl

/-- Settles O9: each operation is its accesses and the change of `S`; what memory reads as follows from the accesses. -/
theorem stackPushesAndPulls : Obligations.StackPushesAndPulls := by
  refine ⟨stackAddr_toNat, fun s v hw => ⟨_, rfl, ?_, ?_⟩, fun s => ?_, fun s w hw => ⟨_, rfl, ?_, ?_⟩, ?_, ?_⟩
  · rw [← sub_one_eq_low, push8_eq_accessed]
  · exact stores_of_accessed hw [.write (stackAddr s.S) v] rfl rfl rfl
  · rw [← add_one_eq_low, pull8_eq_accessed]
  · rw [← sub_one_eq_low, ← sub_two_eq_low, push16_eq_accessed]
  · rw [← sub_one_eq_low]
    exact stores_of_accessed hw [.write (stackAddr s.S) (highByte w), .write (stackAddr (s.S - 1)) (lowByte w)]
      rfl rfl rfl
  · rintro s _ _ rfl rfl
    rw [← add_one_eq_low, ← add_two_eq_low, pull16_eq_accessed]
  · rintro s a _ rfl
    have hnext : BitVec.ofNat 16 (a.toNat + 1) = a + 1 := by bv_omega
    rw [hnext, read16_eq_accessed]

end Sys2Proof.Proofs
end

section
/-! PROOFS. The status byte (R37, R38, R42). -/

namespace Sys2Proof.Proofs

open Sys2Proof.Machine Sys2Proof.Claims

theorem getLsbD_eq_decide (b : Byte) (k : Nat) : b.getLsbD k = decide (b.toNat / 2 ^ k % 2 = 1) :=
  Nat.testBit_eq_decide_div_mod_eq

/-- The weight of a flag has the flag at its own bit and 0 at the others. -/
theorem getLsbD_flagBit (f : Bool) {n : Nat} (hn : n < 8) (k : Nat) :
    (flagBit f n).getLsbD k = (f && decide (k = n)) := by
  cases f
  · simp [flagBit]
  · rw [Bool.eq_iff_iff]
    simp only [flagBit, if_true, BitVec.getLsbD_shiftLeft, BitVec.getLsbD_one, Bool.and_eq_true, Bool.not_eq_true',
      decide_eq_true_eq, decide_eq_false_iff_not, true_and]
    omega

/-- The bits of the status byte, `N V 1 B D I Z C` from bit 7 on (R37). -/
theorem getLsbD_packStatus (s : State) (k : Nat) :
    (packStatus s).getLsbD k =
      (s.N && decide (k = 7) || s.V && decide (k = 6) || decide (k = 5) || s.B && decide (k = 4) ||
        s.D && decide (k = 3) || s.I && decide (k = 2) || s.Z && decide (k = 1) || s.C && decide (k = 0)) := by
  simp only [packStatus, BitVec.getLsbD_or, getLsbD_flagBit, Nat.reduceLT, Bool.true_and]

/-- The bits are the summands of R37: with seven flags this is a table of 128 rows. -/
theorem flagBits_eq_sum : ∀ n v b d i z c : Bool,
    flagBit n 7 ||| flagBit v 6 ||| flagBit true 5 ||| flagBit b 4 ||| flagBit d 3 ||| flagBit i 2 ||| flagBit z 1 |||
        flagBit c 0 =
      BitVec.ofNat 8 (n.toNat * 128 + v.toNat * 64 + 32 + b.toNat * 16 + d.toNat * 8 + i.toNat * 4 + z.toNat * 2 +
        c.toNat) := by
  decide

theorem packStatus_eq_statusByte (s : State) : packStatus s = statusByte s.B s :=
  flagBits_eq_sum s.N s.V s.B s.D s.I s.Z s.C

/-- NMI pushes the status byte with bit 4 clear (R357). -/
theorem statusWithoutBreak_eq_statusByte (s : State) : statusWithoutBreak s = statusByte false s := by
  have hclear : statusWithoutBreak s = packStatus { s with B := false } := by
    refine BitVec.eq_of_getLsbD_eq fun k hk => ?_
    simp only [statusWithoutBreak, BitVec.getLsbD_and, getLsbD_packStatus]
    interval_cases k <;> simp
  rw [hclear, packStatus_eq_statusByte]
  rfl

theorem unpackStatus_eq_withStatus (b : Byte) (s : State) : unpackStatus b s = withStatus b s := by
  simp only [unpackStatus, withStatus, getLsbD_eq_decide, Nat.reducePow, Nat.div_one]

theorem unpackStatus_packStatus (s : State) : unpackStatus (packStatus s) s = s := by
  simp only [unpackStatus, getLsbD_packStatus]
  simp

/-- Bit 5 is not a flag and reads as 1 (R42). -/
theorem packStatus_unpackStatus (b : Byte) (s : State) : packStatus (unpackStatus b s) = b ||| 0x20 := by
  refine BitVec.eq_of_getLsbD_eq fun k hk => ?_
  simp only [getLsbD_packStatus, unpackStatus, BitVec.getLsbD_or]
  interval_cases k <;> simp

theorem updateZN_eq_withZN (v : Byte) (s : State) : updateZN v s = withZN v s := by
  have hz : (v == 0#8) = decide (v.toNat = 0) := by
    rw [beq_eq_decide]
    exact decide_eq_decide.mpr BitVec.toNat_eq
  have hn : v.msb = decide (128 ≤ v.toNat) := BitVec.msb_eq_decide v
  rw [updateZN, withZN, hz, hn]

/-- Settles O7: the round trips bit by bit (`getLsbD_packStatus`). -/
theorem statusBytePacksAndUnpacks : Obligations.StatusBytePacksAndUnpacks := by
  intro s b
  have hbit5 : (packStatus s).getLsbD 5 = true := by simp [getLsbD_packStatus]
  exact ⟨packStatus_eq_statusByte s, unpackStatus_eq_withStatus b s, unpackStatus_packStatus s,
    packStatus_unpackStatus b s, hbit5, updateZN_eq_withZN b s⟩

end Sys2Proof.Proofs
end

section
/-! PROOFS. The entry of an interrupt as bus accesses (R353, R357), and the service of an NMI (R321). -/

namespace Sys2Proof.Proofs

open Sys2Proof.Machine Sys2Proof.Claims

/-- The three pushes of an interrupt's entry: `PC`, high byte first, and the status byte given (R353, R357). -/
def interruptPushes (pushed : Byte) (s : State) : List (Addr × Byte) :=
  [(stackAddr s.S, low (s.PC.toNat / 256)), (stackAddr (s.S - 1), low s.PC.toNat), (stackAddr (s.S - 2), pushed)]

/-- The accesses of an interrupt's entry: the pushes, then the two reads of the vector. -/
theorem enterInterrupt_eq_accessed (vector : Addr) (pushed : Byte) (s : State) :
    enterInterrupt vector pushed s =
      { accessed (busWrites (interruptPushes pushed s) ++ [.read vector, .read (vector + 1)]) s with
        S := s.S - 3, I := true
        PC := word (readAfter s (busWrites (interruptPushes pushed s) ++ [.read vector]) (vector + 1))
          (readAfter s (busWrites (interruptPushes pushed s)) vector) } := by
  have htwo : s.S - 2 = s.S - 1 - 1 := by bv_omega
  have hthree : s.S - 3 = s.S - 1 - 1 - 1 := by bv_omega
  rw [interruptPushes, htwo, hthree, accessed_eq_foldl, enterInterrupt_eq_loadVector]
  rfl

theorem writesOf_busWrites_append (ws : List (Addr × Byte)) (acc : List BusAccess) :
    writesOf (busWrites ws ++ acc) = ws ++ writesOf acc := by
  induction ws with
  | nil => rfl
  | cons w ws ih => exact congrArg (w :: ·) ih

/-- The vectors lie outside the stack page: with the default provider the entry finds there what stood there before. -/
theorem peek_vector_after_pushes {s : State} (hp : s.cfg.provider = .default) (pushed : Byte) {a : Addr}
    (ha : 0x200 ≤ a.toNat) (acc : List BusAccess) (hacc : writesOf acc = interruptPushes pushed s) :
    readAfter s acc a = s.peek a := by
  refine peek_after_of_not_written hp fun w hw => ?_
  rw [hacc, interruptPushes] at hw
  simp only [List.mem_cons, List.not_mem_nil, or_false] at hw
  obtain rfl | rfl | rfl := hw <;> exact stackAddr_ne_of_le ha _

theorem enterInterrupt_PC_default {s : State} (hp : s.cfg.provider = .default) {vector : Addr}
    (hlow : 0x200 ≤ vector.toNat) (hhigh : 0x200 ≤ (vector + 1).toNat) (pushed : Byte) :
    (enterInterrupt vector pushed s).PC = word (s.peek (vector + 1)) (s.peek vector) := by
  have hlo := peek_vector_after_pushes hp pushed hlow (busWrites (interruptPushes pushed s)) rfl
  have hhi := peek_vector_after_pushes hp pushed hhigh (busWrites (interruptPushes pushed s) ++ [.read vector]) rfl
  simp only [enterInterrupt_eq_accessed, hlo, hhi]

theorem accessed_totalCycles (acc : List BusAccess) (s : State) : (accessed acc s).totalCycles = s.totalCycles := by
  rw [accessed, after_frame]

/-- A change that no access sees may as well be made after the accesses. -/
theorem after_comm {f : State → State} (hf : ∀ s x, (f s).access x = f (s.access x)) (s : State)
    (acc : List BusAccess) : (f s).after acc = f (s.after acc) := by
  induction acc generalizing s with
  | nil => rfl
  | cons x acc ih => rw [after_cons, after_cons, hf, ih]

theorem after_setNmiEdge (b : Bool) (s : State) (acc : List BusAccess) :
    ({ s with nmiEdge := b } : State).after acc = { s.after acc with nmiEdge := b } :=
  after_comm (f := fun s => { s with nmiEdge := b }) (fun _ x => by cases x <;> rfl) s acc

theorem after_setBus (l : List BusAccess) (s : State) (acc : List BusAccess) :
    ({ s with bus := l } : State).after acc = { s.after acc with bus := l } :=
  after_comm (f := fun s => { s with bus := l }) (fun _ x => by cases x <;> rfl) s acc

/-- Entering an interrupt neither sees nor changes the latch. -/
theorem enterInterrupt_setNmiEdge (vector : Addr) (pushed : Byte) (b : Bool) (s : State) :
    enterInterrupt vector pushed { s with nmiEdge := b } = { enterInterrupt vector pushed s with nmiEdge := b } := by
  have hpushes : interruptPushes pushed { s with nmiEdge := b } = interruptPushes pushed s := rfl
  simp only [enterInterrupt_eq_accessed, hpushes, accessed, readAfter, after_setNmiEdge]
  congr 1

/-- The service of an NMI in full: the entry through the NMI vector from the state with the latch cleared. -/
theorem serviceNmi_eq_accessed (s : State) (pushes : List (Addr × Byte))
    (hp : pushes = interruptPushes (statusByte false s) s) :
    serviceNmi s =
      { accessed (busWrites pushes ++ [.read 0xFFFA, .read 0xFFFB]) s with
        nmiEdge := false, S := s.S - 3, I := true
        PC := word (readAfter s (busWrites pushes ++ [.read 0xFFFA]) 0xFFFB) (readAfter s (busWrites pushes) 0xFFFA)
        cycles := 7, totalCycles := s.totalCycles + 7, status := .nmi } := by
  have hstatus : statusWithoutBreak { s with nmiEdge := false } = statusByte false s :=
    statusWithoutBreak_eq_statusByte { s with nmiEdge := false }
  have hnext : nmiVector + 1 = 0xFFFB := rfl
  rw [serviceNmi, hstatus, enterInterrupt_setNmiEdge, enterInterrupt_eq_accessed, ← hp, hnext]
  simp only [charge, accessed_totalCycles]
  rfl

/-- A step with an NMI pending, in the terms of the state before the bus record starts anew. -/
theorem serviceNmi_of_emptyBus (s : State) (pushes : List (Addr × Byte))
    (hp : pushes = interruptPushes (statusByte false s) s) :
    serviceNmi { s with bus := [] } =
      { accessed (busWrites pushes ++ [.read 0xFFFA, .read 0xFFFB]) { s with bus := [] } with
        nmiEdge := false, S := s.S - 3, I := true
        PC := word (readAfter s (busWrites pushes ++ [.read 0xFFFA]) 0xFFFB) (readAfter s (busWrites pushes) 0xFFFA)
        cycles := 7, totalCycles := s.totalCycles + 7, status := .nmi } := by
  have hread (acc : List BusAccess) (a : Addr) : readAfter { s with bus := [] } acc a = readAfter s acc a := by
    rw [readAfter, after_setBus]
    rfl
  rw [serviceNmi_eq_accessed { s with bus := [] } pushes hp, hread, hread]

/-- Settles O41: the service is the entry of an interrupt, whose accesses say what memory reads as. -/
theorem nmiServicePreemptsTheStep : Obligations.NmiServicePreemptsTheStep := by
  intro s hw hn
  obtain ⟨pushes, hp⟩ : ∃ l, l = interruptPushes (statusByte false s) s := ⟨_, rfl⟩
  have heq := serviceNmi_of_emptyBus s pushes hp
  have hreads := after_setBus [] s (busWrites pushes ++ [.read 0xFFFA, .read 0xFFFB])
  have hstores : Stores s (serviceNmi { s with bus := [] })
      (writesOf (busWrites pushes ++ [.read 0xFFFA, .read 0xFFFB])) := by
    rw [heq]
    exact stores_of_accessed hw _ (congrArg State.mem hreads :) (congrArg State.providerState hreads :)
      (after_cfg { s with bus := [] } _)
  rw [writesOf_busWrites_append] at hstores
  refine ⟨_, pushes, hp, step_of_nmi hn, heq, by simpa [writesOf] using hstores, fun hd => ?_⟩
  rw [heq, ← peek_vector_after_pushes hd (statusByte false s) (a := 0xFFFA) (by decide) (busWrites pushes),
    ← peek_vector_after_pushes hd (statusByte false s) (a := 0xFFFB) (by decide) (busWrites pushes ++ [.read 0xFFFA])]
  · rw [writesOf_busWrites_append, hp]
    rfl
  · rw [← List.append_nil (busWrites pushes), writesOf_busWrites_append, hp]
    rfl

end Sys2Proof.Proofs
end

section
/-! PROOFS. Steps of two states that differ only in `I`, in `D` or in what no rule reads (R34, R35, R43). -/

namespace Sys2Proof.Proofs

open Sys2Proof.Machine Sys2Proof.Claims

/-- The operation that a step fetches where no NMI is pending (R323). -/
abbrev nextOperation (s : State) : Operation := (dispatchEntry (s.peek s.PC)).operation

theorem fetch8_relabel (r : Relabel) (s : State) : fetch8 (r.apply s) = ((fetch8 s).1, r.apply (fetch8 s).2) := rfl

theorem fetchOpcode_relabel (r : Relabel) (s : State) :
    fetchOpcode (r.apply s) = ((fetchOpcode s).1, { r with opcode := id }.apply (fetchOpcode s).2) := rfl

theorem fetchInstr_relabel (r : Relabel) (s : State) :
    fetchInstr (r.apply s) = ((fetchInstr s).1, { r with opcode := id }.apply (fetchInstr s).2) := by
  simp only [fetchInstr, fetchOpcode_relabel, fetch8_relabel]
  split <;> rfl

/-- Two next states are the same charge on two states in a relation. -/
def SameCharge (R : State → State → Prop) (s' t' : State) : Prop :=
  ∃ n st u v, s' = charge n st u ∧ t' = charge n st v ∧ R u v

theorem SameCharge.imp {R Q : State → State → Prop} {s' t' : State} (h : SameCharge R s' t')
    (himp : ∀ {u v}, R u v → Q u v) : SameCharge Q s' t' := by
  obtain ⟨n, st, u, v, hs, ht, hR⟩ := h
  exact ⟨n, st, u, v, hs, ht, himp hR⟩

/-- `t` is `s`, relabelled within a class, but for memory, the provider and the bus record. -/
def RelatedOffMemory (C : Relabel → Prop) (s t : State) : Prop :=
  Related C s { t with mem := s.mem, providerState := s.providerState, bus := s.bus }

theorem Related.offMemory {C : Relabel → Prop} {s t : State} (h : Related C s t) : RelatedOffMemory C s t := by
  obtain ⟨r, hr, rfl⟩ := h
  exact ⟨r, hr, rfl⟩

/-- A push of another byte is a difference in memory. -/
theorem Related.push8_offMemory {C : Relabel → Prop} {s t : State} (h : Related C s t) (v w : Byte) :
    RelatedOffMemory C (push8 v s) (push8 w t) := by
  obtain ⟨r, hr, rfl⟩ := h
  exact ⟨r, hr, rfl⟩

section
variable {C : Relabel → Prop} (hC : Narrowing C) {s t : State} (h : Related C s t)
include hC h

theorem Related.fetch :
    (fetchInstr t).1 = (fetchInstr s).1 ∧ Related C (fetchInstr s).2 (fetchInstr t).2 := by
  obtain ⟨r, hr, rfl⟩ := h
  rw [fetchInstr_relabel]
  exact ⟨rfl, _, hC.opcode r hr, rfl⟩

/-- With the default provider an interrupt's entry with another pushed byte is a difference in memory, since the vector
lies outside the stack page. -/
theorem Related.enterInterrupt_offMemory (hp : s.cfg.provider = .default) {vector : Addr}
    (hlow : 0x200 ≤ vector.toNat) (hhigh : 0x200 ≤ (vector + 1).toNat) (v w : Byte) :
    RelatedOffMemory C (enterInterrupt vector v s) (enterInterrupt vector w t) := by
  obtain ⟨r, hr, rfl⟩ := h
  have hpc := enterInterrupt_PC_default hp hlow hhigh v
  have hpc' := enterInterrupt_PC_default (s := r.apply s) hp hlow hhigh w
  obtain ⟨pc, bus, mem, ps, he⟩ := enterInterrupt_frame vector v s
  obtain ⟨pc', bus', mem', ps', he'⟩ := enterInterrupt_frame vector w (r.apply s)
  rw [he] at hpc ⊢
  rw [he'] at hpc' ⊢
  obtain rfl : pc' = pc := hpc'.trans hpc.symm
  exact ⟨_, hC.I r hr, rfl⟩

/-- An instruction takes related states to related states, unless it reads the difference. -/
theorem Related.exec_next (i : Instr) (hdec : i.operation ∈ decimalReaders → ∀ r, C r → r.D = id)
    (hpush : i.operation ∈ statusPushers → ∀ r, C r → r.I = id ∧ r.D = id) {s' t' : State}
    (hs : exec i s = .next s') (ht : exec i t = .next t') : SameCharge (Related C) s' t' := by
  rw [exec_eq_charge_body] at hs ht
  rw [h.cost] at ht
  cases hs
  cases ht
  exact ⟨_, _, _, _, rfl, rfl, h.body fun p hp => hC.part hp hdec hpush⟩

/-- PHP and BRK may push another byte: a difference in memory, with the default provider. -/
theorem Related.exec_next_offMemory (i : Instr) (hi : i.operation ∈ statusPushers)
    (hp : i.operation = .brk → s.cfg.provider = .default) {s' t' : State}
    (hs : exec i s = .next s') (ht : exec i t = .next t') : SameCharge (RelatedOffMemory C) s' t' := by
  rw [exec_eq_charge_body] at hs ht
  rw [h.cost] at ht
  cases hs
  cases ht
  refine ⟨_, _, _, _, rfl, rfl, ?_⟩
  generalize i.operation = op at hi hp
  obtain rfl | rfl := List.mem_pair.mp hi
  · exact h.push8_offMemory _ _
  · have hnext : Related C { s with PC := s.PC + 1 } { t with PC := t.PC + 1 } := by
      obtain ⟨r, hr, rfl⟩ := h
      exact ⟨r, hr, rfl⟩
    exact hnext.enterInterrupt_offMemory hC (hp rfl) (by decide) (by decide) _ _

end

/-! ## Steps -/

/-- The operation that a step runs is the one of the opcode at `PC`. -/
theorem operation_of_step (s : State) : (fetchInstr { s with bus := [] }).1.operation = nextOperation s :=
  fetchInstr_operation { s with bus := [] }

section
variable {C : Relabel → Prop} (hC : Narrowing C) {s t s' t' : State}
  (h : Related C { s with bus := [] } { t with bus := [] }) (hs : step s = .next s') (ht : step t = .next t')
include h

theorem Related.nmiEdge : t.nmiEdge = s.nmiEdge := by
  obtain ⟨r, -, hr⟩ := h
  exact (congrArg State.nmiEdge hr :)

include hC hs ht

/-- A step takes related states to related states, unless it reads the difference. -/
theorem Related.step_next (hn : s.nmiEdge = false)
    (hdec : nextOperation s ∈ decimalReaders → ∀ r, C r → r.D = id)
    (hpush : nextOperation s ∈ statusPushers → ∀ r, C r → r.I = id ∧ r.D = id) :
    SameCharge (Related C) s' t' := by
  obtain ⟨hinstr, hfetch⟩ := h.fetch hC
  rw [step_of_no_nmi hn] at hs
  rw [step_of_no_nmi (h.nmiEdge.trans hn), hinstr] at ht
  rw [← operation_of_step] at hdec hpush
  exact hfetch.exec_next hC _ hdec hpush hs ht

/-- A step that pushes the status byte: its difference is one in memory, with the default provider. -/
theorem Related.step_next_offMemory (hpush : s.nmiEdge = true ∨ nextOperation s ∈ statusPushers)
    (hp : s.nmiEdge = true ∨ nextOperation s = .brk → s.cfg.provider = .default) :
    SameCharge (RelatedOffMemory C) s' t' := by
  cases hn : s.nmiEdge
  case true =>
    rw [step_of_nmi hn] at hs
    rw [step_of_nmi (h.nmiEdge.trans hn)] at ht
    cases hs
    cases ht
    have hlatch : Related C { s with bus := [], nmiEdge := false } { t with bus := [], nmiEdge := false } := by
      obtain ⟨r, hr, heq⟩ := h
      exact ⟨r, hr, congrArg (fun u : State => { u with nmiEdge := false }) heq⟩
    exact ⟨_, _, _, _, rfl, rfl,
      hlatch.enterInterrupt_offMemory hC (hp (.inl hn)) (by decide) (by decide) _ _⟩
  case false =>
    obtain ⟨hinstr, hfetch⟩ := h.fetch hC
    rw [step_of_no_nmi hn] at hs
    rw [step_of_no_nmi (h.nmiEdge.trans hn), hinstr] at ht
    rw [← operation_of_step] at hpush hp
    obtain ⟨-, hcfg, -⟩ := fetchInstr_keeps { s with bus := [] }
    exact hfetch.exec_next_offMemory hC _ (hpush.resolve_left (by simp [hn]))
      (fun hb => (congrArg Config.provider hcfg).trans (hp (.inr hb))) hs ht

/-- Any step, in terms of what may differ where the status byte is pushed. -/
theorem Related.step_offMemory (hdec : s.nmiEdge = true ∨ (nextOperation s ∈ decimalReaders → ∀ r, C r → r.D = id))
    (hp : s.cfg.provider = .default ∨ (s.nmiEdge = false ∧ nextOperation s ≠ .brk)) :
    SameCharge (RelatedOffMemory C) s' t' := by
  by_cases hpush : s.nmiEdge = true ∨ nextOperation s ∈ statusPushers
  · refine h.step_next_offMemory hC hs ht hpush fun hor => hp.resolve_right fun hno => ?_
    exact hor.elim (by simp [hno.1]) hno.2
  · obtain ⟨hn, hop⟩ := not_or.mp hpush
    have hdec' := hdec.resolve_left hn
    exact (h.step_next hC hs ht (by simpa using hn) hdec' fun hmem => absurd hmem hop).imp Related.offMemory

end

/-! ## `I` and `D` -/

/-- The relabellings of `I` alone. -/
def OnlyI (r : Relabel) : Prop := ∃ f, r = { Relabel.same with I := f }

/-- The relabellings of `D` alone. -/
def OnlyD (r : Relabel) : Prop := ∃ f, r = { Relabel.same with D := f }

theorem narrowing_onlyI : Narrowing OnlyI where
  I := by rintro _ ⟨f, rfl⟩; exact ⟨id, rfl⟩
  D := by rintro _ ⟨f, rfl⟩; exact ⟨f, rfl⟩
  opcode := by rintro _ ⟨f, rfl⟩; exact ⟨f, rfl⟩

theorem narrowing_onlyD : Narrowing OnlyD where
  I := by rintro _ ⟨f, rfl⟩; exact ⟨f, rfl⟩
  D := by rintro _ ⟨f, rfl⟩; exact ⟨id, rfl⟩
  opcode := by rintro _ ⟨f, rfl⟩; exact ⟨f, rfl⟩

theorem eq_of_sameCharge_onlyI {s' t' : State} (h : SameCharge (Related OnlyI) s' t') : { t' with I := s'.I } = s' := by
  obtain ⟨n, st, u, v, rfl, rfl, _, ⟨f, rfl⟩, rfl⟩ := h
  rfl

theorem eq_of_sameCharge_onlyD {s' t' : State} (h : SameCharge (Related OnlyD) s' t') : { t' with D := s'.D } = s' := by
  obtain ⟨n, st, u, v, rfl, rfl, _, ⟨f, rfl⟩, rfl⟩ := h
  rfl

theorem eq_of_sameCharge_offMemory_onlyI {s' t' : State} (h : SameCharge (RelatedOffMemory OnlyI) s' t') :
    { t' with I := s'.I, mem := s'.mem, providerState := s'.providerState, bus := s'.bus } = s' := by
  obtain ⟨n, st, u, v, rfl, rfl, _, ⟨f, rfl⟩, hv⟩ := h
  exact congrArg (fun w => { charge n st w with I := u.I }) hv

theorem eq_of_sameCharge_offMemory_onlyD {s' t' : State} (h : SameCharge (RelatedOffMemory OnlyD) s' t') :
    { t' with D := s'.D, mem := s'.mem, providerState := s'.providerState, bus := s'.bus } = s' := by
  obtain ⟨n, st, u, v, rfl, rfl, _, ⟨f, rfl⟩, hv⟩ := h
  exact congrArg (fun w => { charge n st w with D := u.D }) hv

theorem not_mem_statusPushers {op : Operation} (hphp : op ≠ .php) (hbrk : op ≠ .brk) : op ∉ statusPushers := by
  simp [hphp, hbrk]

/-- Settles O54: the two runs keep a relabelling of `I`, and where the status byte is pushed they differ off memory
only. -/
theorem interruptDisableGatesNothing : Obligations.InterruptDisableGatesNothing := by
  intro s s' t' b hs ht
  have h : Related OnlyI { s with bus := [] } { s with I := b, bus := [] } :=
    ⟨{ Relabel.same with I := fun _ => b }, ⟨_, rfl⟩, rfl⟩
  have hD : ∀ r, OnlyI r → r.D = id := by rintro _ ⟨f, rfl⟩; rfl
  refine ⟨fun hp => eq_of_sameCharge_offMemory_onlyI ?_, fun hn hphp hbrk => eq_of_sameCharge_onlyI ?_⟩
  · exact h.step_offMemory narrowing_onlyI hs ht (.inr fun _ => hD) hp
  · exact h.step_next narrowing_onlyI hs ht hn (fun _ => hD)
      fun hmem => absurd hmem (not_mem_statusPushers hphp hbrk)

/-- Settles O55: as for `I`, with the operations that read `D` left out. -/
theorem decimalFlagReadByAdditionsOnly : Obligations.DecimalFlagReadByAdditionsOnly := by
  intro s s' t' d hs ht hop
  have h : Related OnlyD { s with bus := [] } { s with D := d, bus := [] } :=
    ⟨{ Relabel.same with D := fun _ => d }, ⟨_, rfl⟩, rfl⟩
  refine ⟨fun hp => eq_of_sameCharge_offMemory_onlyD ?_, fun hn hphp hbrk => eq_of_sameCharge_onlyD ?_⟩
  · exact h.step_offMemory narrowing_onlyD hs ht (hop.imp_right fun hno hmem => absurd hmem hno) hp
  · have hno := hop.resolve_left (by simp [hn])
    exact h.step_next narrowing_onlyD hs ht hn (fun hmem => absurd hmem hno)
      fun hmem => absurd hmem (not_mem_statusPushers hphp hbrk)

/-! ## What only the host reads -/

/-- The relabellings that leave `I` and `D`. -/
def OnlyObservers (r : Relabel) : Prop := ∃ rop rcyc rtot rst, r = ⟨id, id, rop, rcyc, rtot, rst⟩

theorem narrowing_onlyObservers : Narrowing OnlyObservers where
  I := by rintro _ ⟨rop, rcyc, rtot, rst, rfl⟩; exact ⟨rop, rcyc, rtot, rst, rfl⟩
  D := by rintro _ ⟨rop, rcyc, rtot, rst, rfl⟩; exact ⟨rop, rcyc, rtot, rst, rfl⟩
  opcode := by rintro _ ⟨rop, rcyc, rtot, rst, rfl⟩; exact ⟨id, rcyc, rtot, rst, rfl⟩

theorem related_onlyObservers {s t : State} (h : forgetObservers s = forgetObservers t) :
    Related OnlyObservers { s with bus := [] } { t with bus := [] } :=
  ⟨⟨id, id, fun _ => t.opcode, fun _ => t.cycles, fun _ => t.totalCycles, fun _ => t.status⟩, ⟨_, _, _, _, rfl⟩,
    congrArg (fun u : State => { u with
      opcode := t.opcode, cycles := t.cycles, totalCycles := t.totalCycles, status := t.status }) h.symm⟩

/-- The status byte that NMI service pushes is the same, and so is the entry of the interrupt. -/
theorem sameCharge_serviceNmi {s t : State} (h : Related OnlyObservers s t) :
    SameCharge (Related OnlyObservers) (serviceNmi s) (serviceNmi t) := by
  obtain ⟨_, ⟨rop, rcyc, rtot, rst, rfl⟩, rfl⟩ := h
  exact ⟨7, .nmi, _, _, rfl, rfl, _, ⟨rop, rcyc, rtot, rst, rfl⟩,
    enterInterrupt_relabel nmiVector (statusWithoutBreak { s with nmiEdge := false }) ⟨id, id, rop, rcyc, rtot, rst⟩
      { s with nmiEdge := false }⟩

theorem sameCharge_step {s t s' t' : State} (h : forgetObservers s = forgetObservers t) (hs : step s = .next s')
    (ht : step t = .next t') : SameCharge (Related OnlyObservers) s' t' := by
  have hrel := related_onlyObservers h
  have hID : ∀ r, OnlyObservers r → r.I = id ∧ r.D = id := by
    rintro _ ⟨rop, rcyc, rtot, rst, rfl⟩
    exact ⟨rfl, rfl⟩
  cases hn : s.nmiEdge
  case true =>
    rw [step_of_nmi hn] at hs
    rw [step_of_nmi (hrel.nmiEdge.trans hn)] at ht
    cases hs
    cases ht
    exact sameCharge_serviceNmi hrel
  case false =>
    exact hrel.step_next narrowing_onlyObservers hs ht hn (fun _ r hr => (hID r hr).2) fun _ => hID

/-- `Reset` reads nothing that only the host reads. -/
theorem resetCommand_forgetObservers (s : State) :
    forgetObservers (resetCommand (forgetObservers s)) = forgetObservers (resetCommand s) := rfl

/-- Settles O53: the two runs keep a relabelling of what only the host reads, and the charge is the same. -/
theorem observersDecideNothing : Obligations.ObserversDecideNothing := by
  intro s t h
  refine ⟨fun s' t' hs ht => ?_, ?_⟩
  · obtain ⟨n, st, u, _, rfl, rfl, _, ⟨rop, rcyc, rtot, rst, rfl⟩, rfl⟩ := sameCharge_step h hs ht
    exact ⟨rfl, rfl, rfl, rfl⟩
  · rw [← resetCommand_forgetObservers s, h, resetCommand_forgetObservers t]

end Sys2Proof.Proofs
end

section
/-! PROOFS. The halt opcodes (R298, R299, R324, R366). -/

namespace Sys2Proof.Proofs

open Sys2Proof.Machine Sys2Proof.Claims

/-- What holds of every cell of the opcode matrix holds of all 256 bytes: a finite statement that `decide` checks. -/
theorem forall_byte {P : Byte → Prop} (h : ∀ r c : Fin 16, P (BitVec.ofNat 8 (16 * r + c))) (b : Byte) : P b := by
  have hb : BitVec.ofNat 8 (16 * (matrixRow b) + (matrixColumn b)) = b := by
    simp [matrixRow, matrixColumn, Nat.div_add_mod]
  exact hb ▸ h (matrixRow b) (matrixColumn b)

theorem operation_eq_kil_iff (op : Byte) : (dispatchEntry op).operation = .kil ↔ op ∈ haltOpcodes :=
  forall_byte (P := fun op => (dispatchEntry op).operation = .kil ↔ op ∈ haltOpcodes) (by decide) op

theorem operandCount_of_mem_haltOpcodes {op : Byte} (h : op ∈ haltOpcodes) : operandCount op = 0 := by
  have hall : ∀ op ∈ haltOpcodes, operandCount op = 0 := by decide
  exact hall op h

/-- The seventeen halt instructions: one byte each, no operand, and the halt as their meaning. -/
theorem kil_cases {i : Instr} (hi : i.operation = .kil) (s : State) :
    i.length = 1 ∧ i.operand = .halt ∧ exec i s = .next (haltAtOpcode s) := by
  have hform := i.oneOfItsForms
  unfold Instr.OneOfItsForms at hform
  rw [hi] at hform
  rcases hform with rfl | rfl | rfl | rfl | rfl | rfl | rfl | rfl | rfl | rfl | rfl | rfl | rfl | rfl | rfl | rfl | rfl
  all_goals exact ⟨rfl, rfl, rfl⟩

/-- Where the opcode asks for no operand byte, the fetch is the opcode's alone. -/
theorem fetchInstr_of_no_operand {s : State} (h : operandCount (s.peek s.PC) = 0) :
    (fetchInstr s).2 = (fetchOpcode s).2 := by
  have hop : operandCount (fetchOpcode s).1 = 0 := h
  simp only [fetchInstr, hop]

/-- The fetch of a halt opcode and the halt after it: `PC` is back at the opcode. -/
theorem step_of_halt {s : State} (hn : s.nmiEdge = false) (hop : s.peek s.PC ∈ haltOpcodes) :
    step s = .next { accessed [.read s.PC] { s with bus := [] } with
      opcode := s.peek s.PC, cycles := s.cfg.killCycles, status := .halted
      totalCycles := s.totalCycles + s.cfg.killCycles } := by
  have hkil : (fetchInstr { s with bus := [] }).1.operation = .kil :=
    (fetchInstr_operation { s with bus := [] }).trans ((operation_eq_kil_iff _).mpr hop)
  have hfetch : (fetchInstr { s with bus := [] }).2 = (fetchOpcode { s with bus := [] }).2 :=
    fetchInstr_of_no_operand (s := { s with bus := [] }) (operandCount_of_mem_haltOpcodes hop)
  have hpc : s.PC + 1 - 1 = s.PC := BitVec.add_sub_cancel _ _
  obtain ⟨-, -, hexec⟩ := kil_cases hkil (fetchInstr { s with bus := [] }).2
  rw [step_of_no_nmi hn, hexec, hfetch]
  simp only [haltAtOpcode, fetchOpcode, fetch8, memRead_PC, hpc]
  rfl

theorem accessed_read_default {s : State} (hp : s.cfg.provider = .default) (a : Addr) :
    accessed [.read a] s = { s with bus := s.bus ++ [.read a] } := by
  rw [accessed, after_cons, access_read, after_nil, afterRead_default hp]

/-- With the default provider the one read of a halt only records itself. -/
theorem step_of_halt_default {s : State} (hp : s.cfg.provider = .default) (hn : s.nmiEdge = false)
    (hop : s.peek s.PC ∈ haltOpcodes) :
    step s = .next { s with
      opcode := s.peek s.PC, cycles := s.cfg.killCycles, status := .halted, bus := [.read s.PC]
      totalCycles := s.totalCycles + s.cfg.killCycles } := by
  have hread : accessed [.read s.PC] { s with bus := [] } = { s with bus := [.read s.PC] } :=
    accessed_read_default (s := { s with bus := [] }) hp s.PC
  rw [step_of_halt hn hop, hread]

/-- A run goes on from the next state that its first step answers. -/
theorem run_succ_of_next (M : Host.Core) {s t : M.State} (h : M.step s = .next t) (k : Nat) :
    M.run (k + 1) s = M.run k t := by
  rw [Host.Core.run, h]

theorem run_succ_of_step {s t : State} (h : step s = .next t) (k : Nat) : core.run (k + 1) s = core.run k t :=
  run_succ_of_next core h k

/-- A halted machine meets the same halt opcode at every step. -/
theorem run_of_halt {s : State} (k : Nat) (hp : s.cfg.provider = .default) (hn : s.nmiEdge = false)
    (hop : s.peek s.PC ∈ haltOpcodes) :
    core.run (k + 1) s = .next { s with
      opcode := s.peek s.PC, cycles := s.cfg.killCycles, status := .halted, bus := [.read s.PC]
      totalCycles := s.totalCycles + (k + 1) * s.cfg.killCycles } := by
  induction k generalizing s with
  | zero =>
    rw [run_succ_of_step (step_of_halt_default hp hn hop), Nat.zero_add, Nat.one_mul]
    rfl
  | succ k ih =>
    have htotal : s.totalCycles + (k + 1 + 1) * s.cfg.killCycles =
        s.totalCycles + s.cfg.killCycles + (k + 1) * s.cfg.killCycles := by ring
    rw [run_succ_of_step (step_of_halt_default hp hn hop), htotal]
    exact ih hp hn hop

/-- Settles O38: one halt is the halt meaning after the fetch of its one byte, and it leads to the same halt. -/
theorem haltOpcodesStayInPlace : Obligations.HaltOpcodesStayInPlace := by
  refine ⟨operation_eq_kil_iff, fun i hi => ?_, fun i s hi => ?_, fun s => step_of_halt, fun s k => run_of_halt k⟩
  · obtain ⟨hlen, hoperand, -⟩ := kil_cases hi State.reset
    exact ⟨hlen, hoperand⟩
  · obtain ⟨-, -, hexec⟩ := kil_cases hi s
    have hpc : s.PC - 1 = BitVec.ofNat 16 (s.PC.toNat + 65535) := by bv_omega
    rw [hexec, haltAtOpcode, hpc]
    rfl

end Sys2Proof.Proofs
end

section
/-! PROOFS. The bus is the only way to memory and to the provider (R60, R62): what a step leaves of them is what the
accesses on its record leave. -/

namespace Sys2Proof.Proofs

open Sys2Proof.Machine Sys2Proof.Claims

/-- What accesses leave of memory and of the provider depends on memory, the provider and the parameters alone. -/
theorem after_congr {s t : State} (hmem : t.mem = s.mem) (hprov : t.providerState = s.providerState)
    (hcfg : t.cfg = s.cfg) (acc : List BusAccess) :
    (t.after acc).mem = (s.after acc).mem ∧ (t.after acc).providerState = (s.after acc).providerState := by
  have hfrom : t = { t with mem := s.mem, providerState := s.providerState, cfg := s.cfg } := by
    rw [← hmem, ← hprov, ← hcfg]
  rw [hfrom, after_comm (f := fun u => { t with mem := u.mem, providerState := u.providerState, cfg := u.cfg })
    (fun _ x => by cases x <;> rfl)]
  exact ⟨rfl, rfl⟩

/-- From `s` to `t` the accesses `acc` have been made and recorded; memory and the provider have changed by them and by
nothing else. -/
structure BusRun (acc : List BusAccess) (s t : State) : Prop where
  mem           : t.mem = (s.after acc).mem
  providerState : t.providerState = (s.after acc).providerState
  cfg           : t.cfg = s.cfg
  bus           : t.bus = s.bus ++ acc

theorem BusRun.trans {acc acc' : List BusAccess} {s t u : State} (h : BusRun acc s t) (k : BusRun acc' t u) :
    BusRun (acc ++ acc') s u := by
  have hcfg : t.cfg = (s.after acc).cfg := h.cfg.trans (after_cfg s acc).symm
  obtain ⟨hmem, hprov⟩ := after_congr h.mem h.providerState hcfg acc'
  refine ⟨k.mem.trans ?_, k.providerState.trans ?_, k.cfg.trans h.cfg, ?_⟩
  · rw [hmem, after_append]
  · rw [hprov, after_append]
  · rw [k.bus, h.bus, List.append_assoc]

/-- Every change from `s` to `t` of memory, of the provider and of the record of the bus is one of bus accesses. -/
def ByBus (s t : State) : Prop := ∃ acc, BusRun acc s t

/-- A change of registers, flags and counters is no access. -/
theorem byBus_of_eq {s t : State} (hmem : t.mem = s.mem) (hprov : t.providerState = s.providerState)
    (hcfg : t.cfg = s.cfg) (hbus : t.bus = s.bus) : ByBus s t :=
  ⟨[], hmem, hprov, hcfg, hbus.trans (List.append_nil _).symm⟩

theorem ByBus.trans {s t u : State} : ByBus s t → ByBus t u → ByBus s u
  | ⟨_, h⟩, ⟨_, k⟩ => ⟨_, BusRun.trans h k⟩

theorem byBus_memRead (a : Addr) (s : State) : ByBus s (memRead a s).2 := ⟨[.read a], rfl, rfl, rfl, rfl⟩

theorem byBus_memWrite (a : Addr) (v : Byte) (s : State) : ByBus s (memWrite a v s) :=
  ⟨[.write a v], rfl, rfl, rfl, rfl⟩

theorem keptByBus_byBus : KeptByBus ByBus where
  refl _ := byBus_of_eq rfl rfl rfl rfl
  trans := ByBus.trans
  read := byBus_memRead
  write := byBus_memWrite

/-! ## Shared operations -/

theorem byBus_fetch8 (s : State) : ByBus s (fetch8 s).2 :=
  (byBus_memRead s.PC s).trans (byBus_of_eq rfl rfl rfl rfl)

theorem byBus_fetchInstr (s : State) : ByBus s (fetchInstr s).2 := by
  have hop : ByBus s (fetchOpcode s).2 := (byBus_fetch8 s).trans (byBus_of_eq rfl rfl rfl rfl)
  simp only [fetchInstr]
  split
  · exact hop
  · exact hop.trans (byBus_fetch8 _)
  · exact hop.trans ((byBus_fetch8 _).trans (byBus_fetch8 _))

theorem byBus_push8 (v : Byte) (s : State) : ByBus s (push8 v s) :=
  (byBus_memWrite _ v s).trans (byBus_of_eq rfl rfl rfl rfl)

theorem byBus_push16 (w : Addr) (s : State) : ByBus s (push16 w s) :=
  (byBus_push8 _ s).trans (byBus_push8 _ _)

theorem byBus_pull8 (s : State) : ByBus s (pull8 s).2 :=
  ByBus.trans (t := { s with S := s.S + 1 }) (byBus_of_eq rfl rfl rfl rfl) (byBus_memRead _ _)

theorem byBus_pull16 (s : State) : ByBus s (pull16 s).2 := (byBus_pull8 s).trans (byBus_pull8 _)

theorem byBus_jump (o : Operand) (s : State) : ByBus s (jump o s) := by
  have htarget : ByBus s (jumpTarget o s).2 := by
    cases o with
    | ind p => exact (byBus_memRead p s).trans (byBus_memRead _ _)
    | _ => exact keptByBus_byBus.refl s
  exact htarget.trans (byBus_of_eq rfl rfl rfl rfl)

theorem byBus_loadVector (vector : Addr) (s : State) : ByBus s (loadVector vector s) :=
  (byBus_memRead vector s).trans ((byBus_memRead _ _).trans (byBus_of_eq rfl rfl rfl rfl))

theorem byBus_enterInterrupt (vector : Addr) (pushed : Byte) (s : State) :
    ByBus s (enterInterrupt vector pushed s) := by
  have hpush : ByBus s { push8 pushed (push16 s.PC s) with I := true } :=
    (byBus_push16 s.PC s).trans ((byBus_push8 pushed _).trans (byBus_of_eq rfl rfl rfl rfl))
  exact hpush.trans (byBus_loadVector vector _)

theorem byBus_returnFromInterrupt (s : State) : ByBus s (returnFromInterrupt s) := by
  have hflags : ByBus s (unpackStatus (pull8 s).1 (pull8 s).2) :=
    (byBus_pull8 s).trans (byBus_of_eq rfl rfl rfl rfl)
  exact hflags.trans ((byBus_pull16 _).trans (byBus_of_eq rfl rfl rfl rfl))

/-! ## Instructions and steps -/

/-- The parts of an operation that use the bus are pushes, pulls and the reads of a jump's target; the others write
registers and flags. -/
theorem byBus_of_part {op : Operation} {o : Operand} {p : State → State} (hp : (effect op).Part o p) (s : State) :
    ByBus s (p s) := by
  cases op <;> cases hp
  case pha.other | php.other => exact byBus_push8 _ s
  case pla.other | plp.other => exact (byBus_pull8 s).trans (byBus_of_eq rfl rfl rfl rfl)
  case jsr.other => exact (byBus_push16 _ s).trans (byBus_of_eq rfl rfl rfl rfl)
  case rts.other => exact (byBus_pull16 s).trans (byBus_of_eq rfl rfl rfl rfl)
  case jmp.other => exact byBus_jump o s
  case brk.other =>
    exact ByBus.trans (t := { s with PC := s.PC + 1 }) (byBus_of_eq rfl rfl rfl rfl) (byBus_enterInterrupt _ _ _)
  case rti.other => exact byBus_returnFromInterrupt s
  case adc.read m | rra.finish m =>
    rw [addToA_eq]
    exact byBus_of_eq rfl rfl rfl rfl
  all_goals exact byBus_of_eq rfl rfl rfl rfl

theorem byBus_exec {i : Instr} {s t : State} (h : exec i s = .next t) : ByBus s t := by
  rw [exec_eq_charge_body] at h
  cases h
  have hbody : ByBus s ((effect i.operation).body i.operand s) :=
    keptByBus_byBus.body (fun _ hp s => byBus_of_part hp s) (fun _ _ _ => byBus_of_eq rfl rfl rfl rfl) s
  exact hbody.trans (byBus_of_eq rfl rfl rfl rfl)

theorem byBus_serviceNmi (s : State) : ByBus s (serviceNmi s) := by
  have hlatch : ByBus s { s with nmiEdge := false } := byBus_of_eq rfl rfl rfl rfl
  exact hlatch.trans ((byBus_enterInterrupt _ _ _).trans (byBus_of_eq rfl rfl rfl rfl))

theorem byBus_step {s t : State} (h : step s = .next t) : ByBus { s with bus := [] } t := by
  by_cases hn : s.nmiEdge = true
  · rw [step_of_nmi hn] at h
    cases h
    exact byBus_serviceNmi _
  · rw [step_of_no_nmi (Bool.eq_false_of_not_eq_true hn)] at h
    exact (byBus_fetchInstr _).trans (byBus_exec h)

/-- A step's record starts empty, so it holds all accesses of the step, which have made memory and the provider what
they are. -/
theorem busRun_step {s t : State} (h : step s = .next t) :
    t.mem = (s.after t.bus).mem ∧ t.providerState = (s.after t.bus).providerState ∧ t.cfg = s.cfg := by
  obtain ⟨acc, hmem, hprov, hcfg, hbus⟩ := byBus_step h
  obtain rfl : t.bus = acc := hbus
  rw [after_setBus] at hmem hprov
  exact ⟨hmem, hprov, hcfg⟩

/-- Settles O56: every operation changes memory and the provider by its bus accesses only (`ByBus`), and what memory
reads as after accesses is `stores_of_accessed`. -/
theorem memoryChangesOnlyByBusWrites : Obligations.MemoryChangesOnlyByBusWrites := by
  intro s t h
  obtain ⟨hmem, hprov, hcfg⟩ := busRun_step h
  exact ⟨hmem, hprov, fun hw => stores_of_accessed hw t.bus hmem hprov hcfg⟩

end Sys2Proof.Proofs
end

section
/-! PROOFS. What the bus cannot see (R62, R63, R65): an injected provider hides the default provider's memory and its
parameters, the default provider hides an injected one's state, and every step is the same step without them. -/

namespace Sys2Proof.Proofs

open Sys2Proof.Machine

/-- `s` with what no bus access of its provider can see set to fixed values. -/
def visible (s : State) : State :=
  { s with
    mem := if s.cfg.provider = .default then s.mem else []
    providerState := if s.cfg.provider = .default then 0 else s.providerState
    cfg := { s.cfg with
      memBase := if s.cfg.provider = .default then s.cfg.memBase else 0
      memSize := if s.cfg.provider = .default then s.cfg.memSize else 0
      fill := if s.cfg.provider = .default then s.cfg.fill else 0 } }

theorem visible_default {s : State} (hp : s.cfg.provider = .default) : visible s = { s with providerState := 0 } := by
  simp only [visible, if_pos hp]

theorem visible_injected {s : State} {n : Nat} (hp : s.cfg.provider = .injected n) :
    visible s = { s with mem := [], cfg := { s.cfg with memBase := 0, memSize := 0, fill := 0 } } := by
  simp [visible, hp]

/-! ## The bus -/

theorem peek_visible (s : State) (a : Addr) : (visible s).peek a = s.peek a := by
  cases hp : s.cfg.provider with
  | default => simp only [visible_default hp, State.peek, hp]
  | injected n => simp only [visible_injected hp, State.peek, hp]

theorem access_visible (s : State) (x : BusAccess) : (visible s).access x = visible (s.access x) := by
  have hcfg : (s.access x).cfg = s.cfg := by cases x <;> rfl
  cases hp : s.cfg.provider with
  | default =>
    rw [visible_default hp, visible_default (hcfg ▸ hp)]
    cases x <;> simp [afterRead_default, poke_default, hp]
  | injected n =>
    rw [visible_injected hp, visible_injected (hcfg ▸ hp)]
    cases x <;> simp [afterRead_injected, poke_injected, hp]

theorem memRead_visible (a : Addr) (s : State) :
    memRead a (visible s) = ((memRead a s).1, visible (memRead a s).2) := by
  rw [memRead_eq, peek_visible, ← access_read, access_visible]
  rfl

theorem memWrite_visible (a : Addr) (v : Byte) (s : State) :
    memWrite a v (visible s) = visible (memWrite a v s) := by
  rw [memWrite_eq, ← access_write, access_visible]
  rfl

/-! ## Shared operations -/

theorem fetch8_visible (s : State) : fetch8 (visible s) = ((fetch8 s).1, visible (fetch8 s).2) := by
  have hPC : (visible s).PC = s.PC := rfl
  simp only [fetch8, hPC, memRead_visible]
  rfl

theorem fetchOpcode_visible (s : State) :
    fetchOpcode (visible s) = ((fetchOpcode s).1, visible (fetchOpcode s).2) := by
  simp only [fetchOpcode, fetch8_visible]
  rfl

theorem fetchInstr_visible (s : State) : fetchInstr (visible s) = ((fetchInstr s).1, visible (fetchInstr s).2) := by
  simp only [fetchInstr, fetchOpcode_visible, fetch8_visible]
  split <;> rfl

theorem push8_visible (v : Byte) (s : State) : push8 v (visible s) = visible (push8 v s) := by
  have hS : (visible s).S = s.S := rfl
  simp only [push8, hS, memWrite_visible]
  rfl

theorem push16_visible (w : Addr) (s : State) : push16 w (visible s) = visible (push16 w s) := by
  simp only [push16, push8_visible]

theorem pull8_visible (s : State) : pull8 (visible s) = ((pull8 s).1, visible (pull8 s).2) :=
  memRead_visible (stackAddr (s.S + 1)) { s with S := s.S + 1 }

theorem pull16_visible (s : State) : pull16 (visible s) = ((pull16 s).1, visible (pull16 s).2) := by
  simp only [pull16, pull8_visible]

theorem loadVector_visible (vector : Addr) (s : State) :
    loadVector vector (visible s) = visible (loadVector vector s) := by
  simp only [loadVector, read16, memRead_visible]
  rfl

theorem enterInterrupt_visible (vector : Addr) (pushed : Byte) (s : State) :
    enterInterrupt vector pushed (visible s) = visible (enterInterrupt vector pushed s) := by
  have hpush : push8 pushed (push16 (visible s).PC (visible s)) = visible (push8 pushed (push16 s.PC s)) := by
    rw [push16_visible, push8_visible]
    rfl
  rw [enterInterrupt_eq_loadVector, enterInterrupt_eq_loadVector, hpush]
  exact loadVector_visible vector { push8 pushed (push16 s.PC s) with I := true }

theorem returnFromInterrupt_visible (s : State) :
    returnFromInterrupt (visible s) = visible (returnFromInterrupt s) := by
  have hflags (b : Byte) (s : State) : unpackStatus b (visible s) = visible (unpackStatus b s) := rfl
  simp only [returnFromInterrupt, pull8_visible, hflags, pull16_visible]
  rfl

theorem jump_visible (o : Operand) (s : State) : jump o (visible s) = visible (jump o s) := by
  cases o with
  | ind p =>
    have hbug : (visible s).cfg.indirectBug = s.cfg.indirectBug := rfl
    simp only [jump, jumpTarget, resolveIndirect, hbug, memRead_visible]
    rfl
  | _ => rfl

theorem resolve_visible (m : MemOperand) (s : State) :
    resolve m (visible s) = ((resolve m s).1, visible (resolve m s).2) := by
  have hpointer (z : Byte) :
      readZeroPagePointer z (visible s) = ((readZeroPagePointer z s).1, visible (readZeroPagePointer z s).2) := by
    simp only [readZeroPagePointer, memRead_visible]
  cases m with
  | izx z =>
    have hX : (visible s).X = s.X := rfl
    simp only [resolve, hX, hpointer]
  | izy z =>
    have hY : (visible s).Y = s.Y := rfl
    simp only [resolve, hY, hpointer]
  | _ => rfl

/-! ## Instructions and steps -/

/-- The parts of an operation read registers, flags and parameters that are visible, and the bus. -/
theorem part_visible {op : Operation} {o : Operand} {p : State → State} (hp : (effect op).Part o p) (s : State) :
    p (visible s) = visible (p s) := by
  cases op <;> cases hp
  case pha.other | php.other => exact push8_visible _ s
  case pla.other | plp.other =>
    simp only [pull8_visible]
    rfl
  case jsr.other =>
    simp only [call, push16_visible]
    rfl
  case rts.other =>
    simp only [returnFromCall, pull16_visible]
    rfl
  case jmp.other => exact jump_visible o s
  case brk.other => exact enterInterrupt_visible brkVector (statusWithBreak s) { s with PC := s.PC + 1 }
  case rti.other => exact returnFromInterrupt_visible s
  case adc.read m | rra.finish m =>
    simp only [addToA_eq]
    rfl
  all_goals rfl

theorem effect_seen_visible (op : Operation) (o : Operand) (v : Byte) (s : State) :
    (effect op).seen o v (visible s) = (effect op).seen o v s := by
  cases op <;> rfl

/-- An effect is its parts and the accesses of its kind, and none of them reads what is not visible. -/
theorem body_visible (op : Operation) (o : Operand) (s : State) :
    (effect op).body o (visible s) = visible ((effect op).body o s) := by
  have hpart {p : State → State} (hp : (effect op).Part o p) (s : State) := part_visible hp s
  have hseen (v : Byte) (s : State) := effect_seen_visible op o v s
  generalize effect op = e at hpart hseen ⊢
  cases e with
  | read f =>
    cases o with
    | imm v => exact hpart (.read f v) s
    | mem m =>
      simp only [Effect.body, resolve_visible, memRead_visible]
      exact hpart (.read f _) _
    | _ => rfl
  | store value =>
    cases o with
    | mem m =>
      have hval : value (.mem m) (visible s) = value (.mem m) s := congrArg Prod.fst (hseen 0 s)
      simp only [Effect.body, resolve_visible, hval, memWrite_visible]
    | _ => rfl
  | modify f g =>
    have hval (v : Byte) (s : State) : (f v (visible s)).1 = (f v s).1 := (congrArg Prod.fst (hseen v s) :)
    have hresult (v : Byte) (s : State) : (f v (visible s)).2 = visible (f v s).2 := hpart (.result f g v) s
    cases o with
    | acc =>
      have hA : (visible s).A = s.A := rfl
      simp only [Effect.body, hA, hval, hresult]
      exact hpart (.finish f g _) { (f s.A s).2 with A := (f s.A s).1 }
    | mem m =>
      simp only [Effect.body, resolve_visible, memRead_visible, hval, hresult, memWrite_visible]
      exact hpart (.finish f g _) _
    | _ => rfl
  | branch cond =>
    cases o with
    | rel r =>
      have hcond : cond (visible s) = cond s := congrArg Prod.snd (hseen 0 s)
      simp only [Effect.body, hcond]
      split <;> rfl
    | _ => rfl
  | other f => exact hpart (.other f) s

/-- The cost depends on `KIL_CYCLES`, on the page cross that the resolver reports and on the branch's condition. -/
theorem cost_visible (op : Operation) (b : Byte) (o : Operand) (s : State) :
    (effect op).cost b o (visible s) = (effect op).cost b o s := by
  have htable : tableCost b (visible s) = tableCost b s := rfl
  have hcross : Claims.operandCrosses o (visible s) = Claims.operandCrosses o s := by
    cases o with
    | mem m => simp only [Claims.operandCrosses, resolve_visible]
    | _ => rfl
  have hrel (r : Byte) : resolveRelative r (visible s) = resolveRelative r s := rfl
  have hseen := effect_seen_visible op o 0 s
  generalize effect op = e at hseen ⊢
  cases e with
  | branch cond =>
    have hcond : cond (visible s) = cond s := congrArg Prod.snd hseen
    cases o <;> simp only [Effect.cost, hcond, hrel, htable, hcross]
  | _ => simp only [Effect.cost, htable, hcross]

theorem exec_visible {i : Instr} {s t : State} (h : exec i s = .next t) : exec i (visible s) = .next (visible t) := by
  rw [exec_eq_charge_body] at h ⊢
  cases h
  rw [cost_visible, body_visible]
  rfl

theorem serviceNmi_visible (s : State) : serviceNmi (visible s) = visible (serviceNmi s) :=
  congrArg (charge 7 .nmi) (enterInterrupt_visible nmiVector (statusWithoutBreak s) { s with nmiEdge := false })

/-- A step without what the bus cannot see is the same step. -/
theorem step_visible {s t : State} (h : step s = .next t) : step (visible s) = .next (visible t) := by
  by_cases hn : s.nmiEdge = true
  · rw [step_of_nmi hn] at h
    cases h
    rw [step_of_nmi (s := visible s) hn]
    exact congrArg _ (serviceNmi_visible { s with bus := [] })
  · have hn : s.nmiEdge = false := Bool.eq_false_of_not_eq_true hn
    have hfetch := fetchInstr_visible { s with bus := [] }
    rw [step_of_no_nmi hn] at h
    rw [step_of_no_nmi (s := visible s) hn, ← exec_visible h]
    exact congrArg (fun f => exec f.1 f.2) hfetch

theorem exists_step_next (s : State) : ∃ t, step s = .next t := by
  by_cases hn : s.nmiEdge = true
  · exact ⟨_, step_of_nmi hn⟩
  · exact ⟨_, (step_of_no_nmi (Bool.eq_false_of_not_eq_true hn)).trans (exec_eq_charge_body _ _)⟩

/-- Steps of two states that the bus cannot tell apart lead to two such states. -/
theorem visible_step_congr {s t s' t' : State} (h : visible s = visible t) (hs : step s = .next s')
    (ht : step t = .next t') : visible s' = visible t' :=
  Host.Outcome.next.inj ((step_visible hs).symm.trans ((congrArg step h).trans (step_visible ht)))

/-! ## What a step does not change -/

/-- Accesses to an injected provider leave the default provider's memory (R62). -/
theorem after_mem_injected {s : State} {n : Nat} (hp : s.cfg.provider = .injected n) (acc : List BusAccess) :
    (s.after acc).mem = s.mem := by
  induction acc generalizing s with
  | nil => rfl
  | cons x acc ih =>
    cases x with
    | read a => exact ih (s := s.afterRead a) hp
    | write a v =>
      rw [after_cons, access_write, ih (s := s.poke a v) hp, poke_injected hp]

/-- Accesses to the default provider leave the state of an injected one (R63). -/
theorem after_providerState_default {s : State} (hp : s.cfg.provider = .default) (acc : List BusAccess) :
    (s.after acc).providerState = s.providerState := by
  induction acc generalizing s with
  | nil => rfl
  | cons x acc ih =>
    cases x with
    | read a => rw [after_cons, access_read, afterRead_default hp, ih hp]
    | write a v => rw [after_cons, access_write, ih (s := s.poke a v) hp, poke_default hp]

theorem step_mem_injected {s t : State} {n : Nat} (hp : s.cfg.provider = .injected n) (h : step s = .next t) :
    t.mem = s.mem :=
  (busRun_step h).1.trans (after_mem_injected hp t.bus)

theorem step_providerState_default {s t : State} (hp : s.cfg.provider = .default) (h : step s = .next t) :
    t.providerState = s.providerState :=
  (busRun_step h).2.1.trans (after_providerState_default hp t.bus)

/-! ## What a step does not depend on -/

/-- Behind an injected provider, states that the bus cannot tell apart differ in the default provider alone. -/
theorem eq_of_visible_injected {s t : State} {n : Nat} (hs : s.cfg.provider = .injected n)
    (ht : t.cfg.provider = .injected n) (h : visible s = visible t) :
    s = { t with
      mem := s.mem
      cfg := { t.cfg with memBase := s.cfg.memBase, memSize := s.cfg.memSize, fill := s.cfg.fill } } := by
  rw [visible_injected hs, visible_injected ht] at h
  exact congrArg (fun u : State => { u with
    mem := s.mem
    cfg := { u.cfg with memBase := s.cfg.memBase, memSize := s.cfg.memSize, fill := s.cfg.fill } }) h

/-- Behind the default provider, they differ in the state of an injected one alone. -/
theorem eq_of_visible_default {s t : State} (hs : s.cfg.provider = .default) (ht : t.cfg.provider = .default)
    (h : visible s = visible t) : s = { t with providerState := s.providerState } := by
  rw [visible_default hs, visible_default ht] at h
  exact congrArg (fun u : State => { u with providerState := s.providerState }) h

/-- With an injected provider a step does not depend on the default provider's memory and parameters. -/
theorem step_setMemory_injected {s s₁ t : State} {n : Nat} (hp : s.cfg.provider = .injected n)
    (h : step s = .next t) (m : Memory) (base size : Nat) (fill : Byte)
    (hs₁ : s₁ = { s with mem := m, cfg := { s.cfg with memBase := base, memSize := size, fill := fill } }) :
    step s₁ = .next { t with mem := m, cfg := { t.cfg with memBase := base, memSize := size, fill := fill } } := by
  obtain ⟨t₁, h₁⟩ := exists_step_next s₁
  have hp₁ : s₁.cfg.provider = .injected n := by rw [hs₁]; exact hp
  have hsame : visible s₁ = visible s := by rw [visible_injected hp₁, visible_injected hp, hs₁]
  obtain ⟨-, -, hcfg⟩ := busRun_step h
  obtain ⟨-, -, hcfg₁⟩ := busRun_step h₁
  have heq := eq_of_visible_injected (hcfg₁ ▸ hp₁) (hcfg ▸ hp) (visible_step_congr hsame h₁ h)
  rw [step_mem_injected hp₁ h₁, hcfg₁, hs₁] at heq
  rw [h₁, heq]

/-- With the default provider a step does not depend on the state of an injected one. -/
theorem step_setProviderState_default {s t : State} (hp : s.cfg.provider = .default) (h : step s = .next t) (p : Nat) :
    step { s with providerState := p } = .next { t with providerState := p } := by
  obtain ⟨t₁, h₁⟩ := exists_step_next { s with providerState := p }
  have hp₁ : ({ s with providerState := p } : State).cfg.provider = .default := hp
  have hsame : visible { s with providerState := p } = visible s := by rw [visible_default hp₁, visible_default hp]
  obtain ⟨-, -, hcfg⟩ := busRun_step h
  obtain ⟨-, -, hcfg₁⟩ := busRun_step h₁
  have heq := eq_of_visible_default (hcfg₁ ▸ hp₁) (hcfg ▸ hp) (visible_step_congr hsame h₁ h)
  rw [step_providerState_default hp₁ h₁] at heq
  rw [h₁, heq]

/-- Settles O59: the bus as the provider answers it, and the step of two states that the bus cannot tell apart. -/
theorem injectedProviderAnswersTheBus : Obligations.InjectedProviderAnswersTheBus := by
  refine ⟨fun s n hp => ⟨fun a => ?_, fun a v => ?_, ?_⟩, fun s hp => ?_⟩
  · rw [memRead_eq, peek_injected hp, afterRead_injected hp]
  · rw [memWrite_eq, poke_injected hp]
  · obtain ⟨t, h⟩ := exists_step_next s
    exact ⟨t, h, step_mem_injected hp h, fun m base size fill => step_setMemory_injected hp h m base size fill rfl⟩
  · obtain ⟨t, h⟩ := exists_step_next s
    exact ⟨t, h, step_providerState_default hp h, step_setProviderState_default hp h⟩

end Sys2Proof.Proofs
end

section
/-! PROOFS. The decoder and the encoder (R90 to R97): a cell of the opcode matrix is its opcode with the entry of the
dispatch table and the operand bytes filled in, every instruction stands in a cell, and the decoder answers the cells. -/

namespace Sys2Proof.Proofs

open Sys2Proof.Machine

/-! ## The operand of an addressing mode -/

/-- The operand that an addressing mode makes of operand byte 1 `b` and the 16-bit operand `w` (R92). -/
def operandOf : Option Mode → Byte → Addr → Operand
  | none, _, _      => .halt
  | some .imp, _, _ => .imp
  | some .acc, _, _ => .acc
  | some .imm, b, _ => .imm b
  | some .zp, b, _  => .mem (.zp b)
  | some .zpx, b, _ => .mem (.zpx b)
  | some .zpy, b, _ => .mem (.zpy b)
  | some .izx, b, _ => .mem (.izx b)
  | some .izy, b, _ => .mem (.izy b)
  | some .abs, _, w => .mem (.abs w)
  | some .abx, _, w => .mem (.abx w)
  | some .aby, _, w => .mem (.aby w)
  | some .ind, _, w => .ind w
  | some .rel, b, _ => .rel b

theorem mode_operandOf (m : Option Mode) (b : Byte) (w : Addr) : (operandOf m b w).mode = m := by
  cases m with
  | none => rfl
  | some m => cases m <;> rfl

/-- The encoder writes the bytes that the operand was made of, as many as the opcode asks for (R90, R91). -/
theorem bytes_operandOf (op b1 b2 : Byte) :
    (operandOf (dispatchEntry op).mode b1 (wordOf b2 b1)).bytes = [b1, b2].take (operandCount op) := by
  unfold operandCount
  cases (dispatchEntry op).mode with
  | none => rfl
  | some m => cases m <;> simp [operandOf, Operand.bytes, MemOperand.bytes, Mode.operandBytes]

/-- The operand depends on no other bytes. -/
theorem operandOf_congr {op b1 b2 c1 c2 : Byte}
    (h : [b1, b2].take (operandCount op) = [c1, c2].take (operandCount op)) :
    operandOf (dispatchEntry op).mode b1 (wordOf b2 b1) = operandOf (dispatchEntry op).mode c1 (wordOf c2 c1) := by
  unfold operandCount at h
  revert h
  cases (dispatchEntry op).mode with
  | none => exact fun _ => rfl
  | some m => cases m <;> simp +contextual [operandOf, Mode.operandBytes]

/-- Every operand is one that its mode makes of some bytes. -/
theorem exists_operandOf (o : Operand) : ∃ b1 b2, o = operandOf o.mode b1 (wordOf b2 b1) := by
  rcases o with _ | _ | _ | v | (_ | _ | _ | w | _ | _ | w | w) | p | r
  case ind => exact ⟨lowByte p, highByte p, by rw [wordOf_high_low]; rfl⟩
  case mem.abs | mem.abx | mem.aby => exact ⟨lowByte w, highByte w, by rw [wordOf_high_low]; rfl⟩
  case halt | imp | acc => exact ⟨0, 0, rfl⟩
  all_goals exact ⟨_, 0, rfl⟩

theorem operandCount_lt_three (op : Byte) : operandCount op < 3 := by
  unfold operandCount
  cases (dispatchEntry op).mode with
  | none => decide
  | some m => cases m <;> decide

/-! ## The opcode matrix -/

/-- Every cell of the opcode matrix is made of its own opcode and of the dispatch table's entry (R96, R97). -/
theorem parts_instrOf (op b1 b2 : Byte) : (instrOf op b1 b2).parts =
    ⟨op, (dispatchEntry op).operation, operandOf (dispatchEntry op).mode b1 (wordOf b2 b1)⟩ := by
  refine forall_byte (P := fun op => (instrOf op b1 b2).parts =
    ⟨op, (dispatchEntry op).operation, operandOf (dispatchEntry op).mode b1 (wordOf b2 b1)⟩) (fun r c => ?_) op
  fin_cases r <;> fin_cases c <;> rfl

theorem opcode_instrOf (op b1 b2 : Byte) : (instrOf op b1 b2).opcode = op :=
  congrArg InstrParts.opcode (parts_instrOf op b1 b2)

theorem operand_instrOf (op b1 b2 : Byte) :
    (instrOf op b1 b2).operand = operandOf (dispatchEntry op).mode b1 (wordOf b2 b1) :=
  congrArg InstrParts.operand (parts_instrOf op b1 b2)

theorem mode_instrOf (op b1 b2 : Byte) : (instrOf op b1 b2).operand.mode = (dispatchEntry op).mode := by
  rw [operand_instrOf, mode_operandOf]

theorem length_instrOf (op b1 b2 : Byte) : (instrOf op b1 b2).length = 1 + operandCount op := by
  rw [Instr.length, opcode_instrOf]

theorem encode_instrOf (op b1 b2 : Byte) : encode (instrOf op b1 b2) = op :: [b1, b2].take (operandCount op) := by
  rw [encode, opcode_instrOf, operand_instrOf, bytes_operandOf]

/-- Every entry of the dispatch table is a pair that exists (R137). -/
theorem wellFormed_instrOf (op b1 b2 : Byte) : (instrOf op b1 b2).wellFormed = true := by
  have hentry (b : Byte) (w : Addr) (op : Byte) :
      AsmInstr.wellFormed ⟨(dispatchEntry op).operation, operandOf (dispatchEntry op).mode b w⟩ = true :=
    forall_byte (P := fun op =>
      AsmInstr.wellFormed ⟨(dispatchEntry op).operation, operandOf (dispatchEntry op).mode b w⟩ = true)
      (fun r c => by fin_cases r <;> fin_cases c <;> rfl) op
  rw [Instr.wellFormed, Instr.asm, instrOf_operation, operand_instrOf]
  exact hentry b1 (wordOf b2 b1) op

/-- Every instruction stands in the cell of its opcode, filled with the bytes that its operand is made of. -/
theorem instrOf_opcode {i : Instr} {b1 b2 : Byte} (h : i.operand = operandOf i.operand.mode b1 (wordOf b2 b1)) :
    instrOf i.opcode b1 b2 = i := by
  cases i
  all_goals
    cases h
    dsimp only [Instr.opcode, Instr.parts]
    rfl

theorem exists_instrOf (i : Instr) : ∃ op b1 b2, instrOf op b1 b2 = i := by
  obtain ⟨b1, b2, h⟩ := exists_operandOf i.operand
  exact ⟨i.opcode, b1, b2, instrOf_opcode h⟩

/-- A cell depends only on the operand bytes that its opcode asks for. -/
theorem instrOf_congr {op b1 b2 c1 c2 : Byte}
    (h : [b1, b2].take (operandCount op) = [c1, c2].take (operandCount op)) :
    instrOf op b1 b2 = instrOf op c1 c2 := by
  have hoperand : (instrOf op c1 c2).operand = operandOf (instrOf op c1 c2).operand.mode b1 (wordOf b2 b1) := by
    rw [mode_instrOf, operand_instrOf, operandOf_congr h]
  have hcell := instrOf_opcode hoperand
  rwa [opcode_instrOf] at hcell

/-! ## The decoder -/

/-- The decoder answers the cell of an opcode and of the operand bytes it asks for (R90, R91). -/
theorem decode_cons_take (op b1 b2 : Byte) (rest : List Byte) :
    decode (op :: ([b1, b2].take (operandCount op) ++ rest)) = .instr (instrOf op b1 b2) rest := by
  have hlt := operandCount_lt_three op
  have hcell (c1 c2 : Byte) (h : [c1, c2].take (operandCount op) = [b1, b2].take (operandCount op)) :
      Decoded.instr (instrOf op c1 c2) rest = .instr (instrOf op b1 b2) rest := by rw [instrOf_congr h]
  rcases hn : operandCount op with _ | _ | _ | n
  · simpa [decode, hn] using hcell 0 0 (by rw [hn]; rfl)
  · simpa [decode, hn] using hcell b1 0 (by rw [hn]; rfl)
  · simp [decode, hn]
  · omega

/-- Every instruction that the decoder answers is such a cell. -/
theorem decode_eq_instr {bytes rest : List Byte} {i : Instr} (h : decode bytes = .instr i rest) :
    ∃ op b1 b2, i = instrOf op b1 b2 ∧ bytes = op :: ([b1, b2].take (operandCount op) ++ rest) := by
  cases bytes with
  | nil => cases h
  | cons op tail =>
    simp only [decode] at h
    split at h
    case h_1 hn => cases h; exact ⟨op, 0, 0, rfl, by rw [hn]; rfl⟩
    case h_2 hn => cases h; exact ⟨op, _, 0, rfl, by rw [hn]; rfl⟩
    case h_3 hn => cases h; exact ⟨op, _, _, rfl, by rw [hn]; rfl⟩
    case h_4 => cases h

/-- With fewer operand bytes than the opcode asks for it refuses (log 17). -/
theorem decode_cons_of_short {op : Byte} {tail : List Byte} (h : tail.length < operandCount op) :
    decode (op :: tail) = .error (.missingOperand op) := by
  simp only [decode]
  split
  case h_1 hn | h_2 hn | h_3 hn => simp [hn] at h
  case h_4 => rfl

/-! ## The statements -/

/-- Settles O1: an instruction is a cell of the matrix, whose bytes the decoder reads back. -/
theorem decodeOfEncode : Obligations.DecodeOfEncode := by
  intro i rest
  obtain ⟨op, b1, b2, rfl⟩ := exists_instrOf i
  refine ⟨wellFormed_instrOf op b1 b2, ?_⟩
  rw [encode_instrOf]
  exact decode_cons_take op b1 b2 rest

/-- Settles O2: what the decoder answers is a cell, which is encoded as the bytes it was filled with. -/
theorem encodeOfDecode : Obligations.EncodeOfDecode := by
  intro bytes i rest h
  obtain ⟨op, b1, b2, rfl, rfl⟩ := decode_eq_instr h
  rw [encode_instrOf]
  rfl

/-- Settles O3: the instruction is the cell of the first byte, filled with the two bytes after it. -/
theorem decodingIsTotal : Obligations.DecodingIsTotal := by
  intro op b1 b2 rest
  have hlt := operandCount_lt_three op
  have hrest : (op :: b1 :: b2 :: rest).drop (1 + operandCount op) = [b1, b2].drop (operandCount op) ++ rest := by
    rw [Nat.add_comm, List.drop_succ_cons]
    exact List.drop_append_of_le_length (l₁ := [b1, b2]) (Nat.le_of_lt_succ hlt)
  have hdecode := decode_cons_take op b1 b2 ([b1, b2].drop (operandCount op) ++ rest)
  rw [← List.append_assoc, List.take_append_drop, ← hrest, ← length_instrOf op b1 b2] at hdecode
  refine ⟨⟨instrOf op b1 b2, hdecode, opcode_instrOf op b1 b2, instrOf_operation op b1 b2, mode_instrOf op b1 b2,
    ?_, ?_⟩, rfl, decode_cons_of_short (tail := []), decode_cons_of_short (tail := [b1])⟩
  · rw [encode_instrOf, length_instrOf, List.length_cons, List.length_take_of_le (Nat.le_of_lt_succ hlt), Nat.add_comm]
  · rw [length_instrOf, operandCount]
    cases (dispatchEntry op).mode with
    | none => rfl
    | some m => cases m <;> rfl

/-- Settles O4: every clause is the evaluation of the decoder on a fixed list of bytes. -/
theorem sampleWordsDecode : Obligations.SampleWordsDecode := by
  unfold Obligations.SampleWordsDecode
  decide

end Sys2Proof.Proofs
end

section
/-! PROOFS. The addressing-mode resolvers in plain arithmetic (R124 to R134). -/

namespace Sys2Proof.Proofs

open Sys2Proof.Machine Sys2Proof.Claims

/-! ## Pages -/

/-- The high byte of an address, in place, is the start of its page. -/
theorem toNat_and_highMask (a : Addr) : (a &&& 0xFF00#16).toNat = a.toNat / 256 * 256 := by
  have hshift : a &&& 0xFF00#16 = a >>> 8 <<< 8 := by
    refine BitVec.eq_of_getLsbD_eq fun k hk => ?_
    interval_cases k <;> simp
  have := a.isLt
  rw [hshift, BitVec.toNat_shiftLeft, BitVec.toNat_ushiftRight, Nat.shiftRight_eq_div_pow, Nat.shiftLeft_eq]
  omega

theorem toNat_and_lowMask (a : Addr) : (a &&& 0x00FF#16).toNat = a.toNat % 256 :=
  Nat.and_two_pow_sub_one_eq_mod a.toNat 8

/-- A page is crossed exactly where the high bytes differ (R134). -/
theorem pageCrossed_eq_decide (a b : Addr) : pageCrossed a b = decide (a.toNat / 256 ≠ b.toNat / 256) := by
  rw [Bool.eq_iff_iff, pageCrossed, bne_iff_ne, decide_eq_true_iff, Ne, BitVec.toNat_eq, toNat_and_highMask,
    toNat_and_highMask]
  omega

/-! ## Effective addresses -/

theorem zeroPage_eq_ofNat (z : Byte) : zeroPage z = BitVec.ofNat 16 z.toNat :=
  (BitVec.ofNat_toNat 16 z).symm

/-- A sum in zero page wraps inside the page (R125, R126). -/
theorem zeroPage_add (z x : Byte) : zeroPage (z + x) = BitVec.ofNat 16 ((z.toNat + x.toNat) % 256) := by
  rw [zeroPage_eq_ofNat, BitVec.toNat_add]

/-- The second byte of a pointer lies in zero page too (R129, R130). -/
theorem zeroPage_add_one (z : Byte) : zeroPage (z + 1) = BitVec.ofNat 16 ((z.toNat + 1) % 256) :=
  zeroPage_add z 1

theorem zeroPage_add_add_one (z x : Byte) :
    zeroPage (z + x + 1) = BitVec.ofNat 16 ((z.toNat + x.toNat + 1) % 256) := by
  rw [zeroPage_add_one, BitVec.toNat_add, Nat.mod_add_mod]

/-- An indexed address wraps past 0xFFFF, and a page is crossed where the high byte of the sum is not the base's. -/
theorem indexed_eq (base : Addr) (index : Byte) :
    indexed base index = ⟨BitVec.ofNat 16 (base.toNat + index.toNat),
      decide ((base.toNat + index.toNat) % 65536 / 256 ≠ base.toNat / 256)⟩ := by
  have haddr : base + index.setWidth 16 = BitVec.ofNat 16 (base.toNat + index.toNat) := by bv_omega
  rw [indexed, haddr, pageCrossed_eq_decide, BitVec.toNat_ofNat, decide_eq_decide.mpr ne_comm]

/-- A pointer in zero page is the word of two reads (R129, R130). -/
theorem readZeroPagePointer_eq_accessed (z : Byte) (s : State) :
    readZeroPagePointer z s =
      (word (readAfter s [.read (zeroPage z)] (zeroPage (z + 1))) (s.peek (zeroPage z)),
        accessed [.read (zeroPage z), .read (zeroPage (z + 1))] s) := by
  rw [accessed_eq_foldl]
  rfl

theorem resolve_izx (z : Byte) (s : State) :
    resolve (.izx z) s =
      (⟨word (readAfter s [.read (BitVec.ofNat 16 ((z.toNat + s.X.toNat) % 256))]
            (BitVec.ofNat 16 ((z.toNat + s.X.toNat + 1) % 256)))
          (s.peek (BitVec.ofNat 16 ((z.toNat + s.X.toNat) % 256))), false⟩,
        accessed (pointerReads (.izx z) s) s) := by
  rw [resolve, readZeroPagePointer_eq_accessed, zeroPage_add, zeroPage_add_add_one, pointerReads]

theorem resolve_izy (z : Byte) (s : State) {base : Addr}
    (hbase : base = word (readAfter s [.read (BitVec.ofNat 16 z.toNat)] (BitVec.ofNat 16 ((z.toNat + 1) % 256)))
      (s.peek (BitVec.ofNat 16 z.toNat))) :
    resolve (.izy z) s = (indexed base s.Y, accessed (pointerReads (.izy z) s) s) := by
  rw [resolve, readZeroPagePointer_eq_accessed, zeroPage_eq_ofNat z, zeroPage_add_one, ← hbase, pointerReads]

/-! ## Modes in the dispatch table -/

/-- Zero-page,Y serves LDX, STX, LAX and SAX alone (R126). -/
theorem mode_eq_zpy_iff (op : Byte) :
    (dispatchEntry op).mode = some .zpy ↔ op ∈ ([0xB6, 0x96, 0xB7, 0x97] : List Byte) :=
  forall_byte (P := fun op => (dispatchEntry op).mode = some .zpy ↔ op ∈ ([0xB6, 0x96, 0xB7, 0x97] : List Byte))
    (by decide) op

theorem mode_eq_ind_iff (op : Byte) : (dispatchEntry op).mode = some .ind ↔ op = 0x6C :=
  forall_byte (P := fun op => (dispatchEntry op).mode = some .ind ↔ op = 0x6C) (by decide) op

/-- Settles O10: zero-page sums by `zeroPage_add`, pointers by `readZeroPagePointer_eq_accessed`, indexed addresses and
their page crosses by `indexed_eq`. -/
theorem resolverAddresses : Obligations.ResolverAddresses := by
  refine ⟨pageCrossed_eq_decide, mode_eq_zpy_iff, rfl, rfl, rfl, rfl, rfl, rfl, rfl, rfl, fun s z => ?_, fun s w => ?_⟩
  · refine ⟨?_, ?_, ?_, resolve_izx z s, fun base hbase => ?_⟩
    · rw [resolve, zeroPage_eq_ofNat]
    · rw [resolve, zeroPage_add]
    · rw [resolve, zeroPage_add]
    · rw [resolve_izy z s hbase, indexed_eq]
  · refine ⟨rfl, ?_, ?_⟩ <;> rw [resolve, indexed_eq]

end Sys2Proof.Proofs
end

section
/-! PROOFS. The forms of an operation are the entries of the dispatch table that name it (R96, R97). -/

namespace Sys2Proof.Proofs

open Sys2Proof.Machine Sys2Proof.Claims

/-- The form that the dispatch table gives an opcode. -/
def entryForm (op : Byte) : Form :=
  ⟨op, (dispatchEntry op).mode, (dispatchEntry op).base, (dispatchEntry op).eligible⟩

theorem formOf_instrOf (op b1 b2 : Byte) : formOf (instrOf op b1 b2) = entryForm op := by
  rw [formOf, opcode_instrOf, mode_instrOf, entryForm]

/-- The forms of an operation can be read off the table: each entry that names it is in the list, and each form of the
list is such an entry. -/
theorem hasForms_of_entries {o : Operation} {l : List Form}
    (hentry : ∀ r c : Fin 16, (dispatchEntry (BitVec.ofNat 8 (16 * r + c))).operation = o →
      entryForm (BitVec.ofNat 8 (16 * r + c)) ∈ l)
    (hform : ∀ f ∈ l, (dispatchEntry f.opcode).operation = o ∧ entryForm f.opcode = f) : HasForms o l := by
  refine ⟨fun i hi => ?_, fun f hf => ?_⟩
  · obtain ⟨op, b1, b2, rfl⟩ := exists_instrOf i
    rw [instrOf_operation] at hi
    rw [formOf_instrOf]
    exact forall_byte (P := fun op => (dispatchEntry op).operation = o → entryForm op ∈ l) hentry op hi
  · obtain ⟨hop, heq⟩ := hform f hf
    exact ⟨instrOf f.opcode 0 0, (instrOf_operation _ _ _).trans hop, (formOf_instrOf _ _ _).trans heq⟩

end Sys2Proof.Proofs
end

section
/-! PROOFS. The indirect jump and its page-wrap defect (R128, R241). -/

namespace Sys2Proof.Proofs

open Sys2Proof.Machine Sys2Proof.Claims

/-- Where the high byte of the target comes from: with the defect the pointer wraps inside its page (R128). -/
theorem indirectHighAddr_eq (bug : Bool) (p : Addr) :
    indirectHighAddr bug p = if bug = true ∧ p.toNat % 256 = 255 then BitVec.ofNat 16 (p.toNat - 255)
      else BitVec.ofNat 16 (p.toNat + 1) := by
  have hcond : (bug && (p &&& 0x00FF#16) == 0x00FF#16) = true ↔ bug = true ∧ p.toNat % 256 = 255 := by
    rw [Bool.and_eq_true, beq_iff_eq, BitVec.toNat_eq, toNat_and_lowMask]
    rfl
  have hnext : p + 1 = BitVec.ofNat 16 (p.toNat + 1) := by bv_omega
  rw [indirectHighAddr, if_congr hcond rfl hnext]
  split
  case isTrue h =>
    have hstart : p.toNat / 256 * 256 = p.toNat - 255 := by omega
    rw [← hstart, ← toNat_and_highMask, BitVec.ofNat_toNat, BitVec.setWidth_eq]
  case isFalse => rfl

/-- The target of an indirect jump is the word of two reads. -/
theorem resolveIndirect_eq_accessed (p : Addr) (s : State) :
    resolveIndirect p s =
      (word (readAfter s [.read p] (indirectHighAddr s.cfg.indirectBug p)) (s.peek p),
        accessed [.read p, .read (indirectHighAddr s.cfg.indirectBug p)] s) := by
  rw [accessed_eq_foldl]
  rfl

/-- JMP indirect takes 5 cycles (R241). -/
theorem exec_jmpInd (p : Addr) (s : State) :
    exec (.jmpInd p) s = .next (charge 5 .normal { (resolveIndirect p s).2 with PC := (resolveIndirect p s).1 }) :=
  rfl

theorem hasForms_jmp : HasForms .jmp [form 0x4C .abs 3, form 0x6C .ind 5] :=
  hasForms_of_entries (by decide) (by decide)

/-- Settles O29: the jump is its two reads (`resolveIndirect_eq_accessed`), the second at `indirectHighAddr_eq`. -/
theorem indirectJump : Obligations.IndirectJump := by
  refine ⟨hasForms_jmp, mode_eq_ind_iff, fun p hi s hhi => ?_⟩
  rw [← indirectHighAddr_eq] at hhi
  rw [Accesses, exec_jmpInd, resolveIndirect_eq_accessed, ← hhi, charge, accessed_totalCycles]
  rfl

end Sys2Proof.Proofs
end

section
/-! PROOFS. The shapes of the instructions (R136, R327, R331): what an operation that reads or stores its operand's byte
does to the state, in terms of its bus accesses and its cost, and what an instruction without an operand does. -/

namespace Sys2Proof.Proofs

open Sys2Proof.Machine Sys2Proof.Claims

/-! ## Accesses in sequence -/

@[simp] theorem accessed_nil (s : State) : accessed [] s = s := by
  rw [accessed, List.append_nil, after_nil]

theorem accessed_append (acc acc' : List BusAccess) (s : State) :
    accessed (acc ++ acc') s = accessed acc' (accessed acc s) := by
  simp only [accessed, after_setBus, after_append, List.append_assoc]

/-- A read after other accesses gives what they have left, and is recorded after them. -/
theorem memRead_accessed (a : Addr) (acc : List BusAccess) (s : State) :
    memRead a (accessed acc s) = (readAfter s acc a, accessed (acc ++ [.read a]) s) := by
  rw [accessed_append]
  rfl

theorem memWrite_accessed (a : Addr) (v : Byte) (acc : List BusAccess) (s : State) :
    memWrite a v (accessed acc s) = accessed (acc ++ [.write a v]) s := by
  rw [accessed_append]
  rfl

/-- A resolver answers the effective address and makes the pointer reads of its mode (R75, R120). -/
theorem resolve_snd_eq_accessed (m : MemOperand) (s : State) : (resolve m s).2 = accessed (pointerReads m s) s := by
  cases m with
  | izx z => rw [resolve_izx]
  | izy z => rw [resolve_izy z s rfl]
  | _ => exact (accessed_nil s).symm

theorem writesOf_pointerReads (m : MemOperand) (s : State) : writesOf (pointerReads m s) = [] := by
  cases m <;> rfl

theorem writesOf_append (l l' : List BusAccess) : writesOf (l ++ l') = writesOf l ++ writesOf l' :=
  List.filterMap_append

/-! ## The charge at the end of an instruction -/

/-- The charge of an instruction's cost after its accesses (R327). -/
theorem charge_accessed (n : Nat) (acc : List BusAccess) (s : State) :
    charge n .normal (accessed acc s) = ended n acc s := by
  rw [charge, accessed_totalCycles]
  rfl

/-- The cost that the dispatch table gives (R331), of an instruction that is no branch. -/
theorem effectCost_eq_cost {i : Instr} (hb : ∀ cond, effect i.operation ≠ .branch cond) (s : State) :
    (effect i.operation).cost i.opcode i.operand s = cost i s := by
  have hcross (a b : Bool) : (a && b).toNat = if a = true ∧ b = true then 1 else 0 := by
    cases a <;> cases b <;> rfl
  have htable : tableCost i.opcode s + ((dispatchEntry i.opcode).eligible && operandCrosses i.operand s).toNat =
      cost i s := congrArg (baseCost i s + ·) (hcross _ _)
  generalize effect i.operation = e at hb ⊢
  cases e with
  | branch cond => exact absurd rfl (hb cond)
  | _ => exact htable

theorem exec_eq_charge_cost {i : Instr} (hk : i.operation ≠ .kil) (hb : ∀ cond, effect i.operation ≠ .branch cond)
    (s : State) :
    exec i s = .next (charge (cost i s) .normal ((effect i.operation).body i.operand s)) := by
  rw [exec_eq_charge_body, effectCost_eq_cost hb, stepStatus, if_neg hk]

/-! ## The operand of an operation that reads or stores -/

/-- What holds of operation and mode in every entry of the dispatch table holds of them in every instruction (R96). -/
theorem operation_mode_of_entries {P : Operation → Option Mode → Prop}
    (h : ∀ op : Byte, P (dispatchEntry op).operation (dispatchEntry op).mode) (i : Instr) :
    P i.operation i.operand.mode := by
  obtain ⟨op, b1, b2, rfl⟩ := exists_instrOf i
  rw [instrOf_operation, mode_instrOf]
  exact h op

/-- The modes that neither give a byte nor name one. -/
abbrev modesWithoutByte : List (Option Mode) := [none, some .imp, some .acc, some .ind, some .rel]

theorem mode_of_opClass_read (op : Byte) :
    opClass (dispatchEntry op).operation (dispatchEntry op).mode = .read →
      (dispatchEntry op).mode ∉ modesWithoutByte :=
  forall_byte (P := fun op => opClass (dispatchEntry op).operation (dispatchEntry op).mode = .read →
    (dispatchEntry op).mode ∉ modesWithoutByte) (by decide) op

theorem mode_of_opClass_store (op : Byte) :
    opClass (dispatchEntry op).operation (dispatchEntry op).mode = .store →
      (dispatchEntry op).mode ∉ some .imm :: modesWithoutByte :=
  forall_byte (P := fun op => opClass (dispatchEntry op).operation (dispatchEntry op).mode = .store →
    (dispatchEntry op).mode ∉ some .imm :: modesWithoutByte) (by decide) op

/-- A read operation has a byte in the instruction or in memory as its operand (R136). -/
theorem operand_of_opClass_read {i : Instr} (hc : opClass i.operation i.operand.mode = .read) :
    (∃ v, i.operand = .imm v) ∨ ∃ m, i.operand = .mem m := by
  have hmode := operation_mode_of_entries
    (P := fun o m => opClass o m = .read → m ∉ modesWithoutByte) mode_of_opClass_read i hc
  cases ho : i.operand with
  | imm v => exact .inl ⟨v, rfl⟩
  | mem m => exact .inr ⟨m, rfl⟩
  | _ => simp [ho, Operand.mode] at hmode

/-- A store has a byte of memory as its operand (R136). -/
theorem operand_of_opClass_store {i : Instr} (hc : opClass i.operation i.operand.mode = .store) :
    ∃ m, i.operand = .mem m := by
  have hmode := operation_mode_of_entries
    (P := fun o m => opClass o m = .store → m ∉ some .imm :: modesWithoutByte) mode_of_opClass_store i hc
  cases ho : i.operand with
  | mem m => exact ⟨m, rfl⟩
  | _ => simp [ho, Operand.mode] at hmode

theorem operation_ne_kil_of_opClass {o : Operation} {m : Option Mode} (h : opClass o m ≠ .halt) : o ≠ .kil := by
  rintro rfl
  exact h rfl

/-! ## Reads and stores -/

/-- The body of a read operation is the reads of its operand, then `f` on the value (R136). -/
theorem body_read_eq {o : Operand} (ho : (∃ v, o = .imm v) ∨ ∃ m, o = .mem m) (s : State) :
    ∃ v, operandValue o s = some v ∧
      ∀ f : Byte → State → State, (Effect.read f).body o s = f v (accessed (operandReads o s) s) := by
  rcases ho with ⟨v, rfl⟩ | ⟨m, rfl⟩
  · have hreads : operandReads (.imm v) s = [] := rfl
    refine ⟨v, rfl, fun f => ?_⟩
    rw [hreads, accessed_nil]
    rfl
  · refine ⟨_, rfl, fun f => ?_⟩
    simp only [Effect.body, resolve_snd_eq_accessed, memRead_accessed]
    rfl

/-- A read operation completes with `g` on the value, where `g` is its effect in the statement's terms and does not
touch what the charge writes. -/
theorem reads_of_effect {i : Instr} {f g : Byte → State → State} (he : effect i.operation = .read f)
    (hc : opClass i.operation i.operand.mode = .read)
    (hfg : ∀ n v s, charge n .normal (f v s) = g v (charge n .normal s)) (s : State) : Reads i s g := by
  obtain ⟨v, hv, hbody⟩ := body_read_eq (operand_of_opClass_read hc) s
  have hk : i.operation ≠ .kil := operation_ne_kil_of_opClass (by rw [hc]; decide)
  refine ⟨v, hv, ?_⟩
  rw [exec_eq_charge_cost hk (by simp [he]), he, hbody, hfg, charge_accessed]

/-- A store completes with its one write, after the pointer reads (R136). -/
theorem writes_of_effect {i : Instr} {value : Operand → State → Byte} (he : effect i.operation = .store value)
    (hc : opClass i.operation i.operand.mode = .store) {s : State} (hw : s.wellFormed = true) :
    Writes i s (value i.operand s) := by
  obtain ⟨m, ho⟩ := operand_of_opClass_store hc
  have hk : i.operation ≠ .kil := operation_ne_kil_of_opClass (by rw [hc]; decide)
  have hexec := exec_eq_charge_cost hk (by simp [he]) s
  rw [he, ho] at hexec
  simp only [Effect.body, resolve_snd_eq_accessed, memWrite_accessed, charge_accessed] at hexec
  rw [ho]
  refine ⟨m, _, ho, hexec, rfl, ?_⟩
  have hstores := stores_of_accessed (t := ended (cost i s)
    (pointerReads m s ++ [.write (effectiveAddress m s) (value (.mem m) s)]) s) hw _ rfl rfl (after_cfg s _)
  rwa [writesOf_append, writesOf_pointerReads] at hstores

end Sys2Proof.Proofs
end

section
/-! PROOFS. Loads, stores, transfers and stack instructions (R150 to R168). -/

namespace Sys2Proof.Proofs

open Sys2Proof.Machine Sys2Proof.Claims

/-! ## Loads -/

theorem loadA_eq_withA (v : Byte) (s : State) : loadA v s = withA v s := updateZN_eq_withZN v { s with A := v }

theorem loadX_eq_withX (v : Byte) (s : State) : loadX v s = withX v s := updateZN_eq_withZN v { s with X := v }

theorem loadY_eq_withY (v : Byte) (s : State) : loadY v s = withY v s := updateZN_eq_withZN v { s with Y := v }

/-- Settles O11: each load is a read operation, whose effect is that of the statement. -/
theorem loadsSetRegisterAndFlags : Obligations.LoadsSetRegisterAndFlags := by
  refine ⟨hasForms_of_entries (by decide) (by decide), hasForms_of_entries (by decide) (by decide),
    hasForms_of_entries (by decide) (by decide), fun i s => ⟨fun hi => ?_, fun hi => ?_, fun hi => ?_⟩⟩
  · exact reads_of_effect (congrArg effect hi) (by rw [hi]; rfl)
      (fun n v t => congrArg (charge n .normal) (loadA_eq_withA v t)) s
  · exact reads_of_effect (congrArg effect hi) (by rw [hi]; rfl)
      (fun n v t => congrArg (charge n .normal) (loadX_eq_withX v t)) s
  · exact reads_of_effect (congrArg effect hi) (by rw [hi]; rfl)
      (fun n v t => congrArg (charge n .normal) (loadY_eq_withY v t)) s

/-! ## Stores -/

/-- Settles O13: each store is a store operation of its register (`writes_of_effect`). -/
theorem storesWriteOneByte : Obligations.StoresWriteOneByte := by
  refine ⟨hasForms_of_entries (by decide) (by decide), hasForms_of_entries (by decide) (by decide),
    hasForms_of_entries (by decide) (by decide), fun i s hw => ⟨fun hi => ?_, fun hi => ?_, fun hi => ?_⟩⟩
  all_goals exact writes_of_effect (congrArg effect hi) (by rw [hi]; rfl) hw

/-! ## Transfers -/

/-- An instruction that completes with `f` on the state after its accesses, where `f` does not touch what the charge
writes. -/
theorem accesses_of_complete {i : Instr} {s : State} {n : Nat} {acc : List BusAccess} {f : State → State}
    (hexec : exec i s = complete n (f (accessed acc s)))
    (hf : ∀ t, charge n .normal (f t) = f (charge n .normal t)) : Accesses i s n acc f := by
  rw [Accesses, hexec, complete, hf, charge_accessed]

theorem plain_of_complete {i : Instr} {s : State} {n : Nat} {f : State → State}
    (hexec : exec i s = complete n (f s)) (hf : ∀ t, charge n .normal (f t) = f (charge n .normal t)) :
    Plain i s n f :=
  accesses_of_complete (by rw [hexec, accessed_nil]) hf

/-- Settles O15: each transfer completes without an access, and its effect is that of the statement. -/
theorem transfersCopyRegisters : Obligations.TransfersCopyRegisters := by
  refine ⟨hasForms_of_entries (by decide) (by decide), hasForms_of_entries (by decide) (by decide),
    hasForms_of_entries (by decide) (by decide), hasForms_of_entries (by decide) (by decide),
    hasForms_of_entries (by decide) (by decide), hasForms_of_entries (by decide) (by decide), fun s => ?_⟩
  have htax : exec .tax s = complete 2 (loadX s.A s) := rfl
  have htay : exec .tay s = complete 2 (loadY s.A s) := rfl
  have htxa : exec .txa s = complete 2 (loadA s.X s) := rfl
  have htya : exec .tya s = complete 2 (loadA s.Y s) := rfl
  have htsx : exec .tsx s = complete 2 (loadX s.S s) := rfl
  have htxs : exec .txs s = complete 2 { s with S := s.X } := rfl
  rw [loadX_eq_withX] at htax htsx
  rw [loadY_eq_withY] at htay
  rw [loadA_eq_withA] at htxa htya
  exact ⟨plain_of_complete htax fun _ => rfl, plain_of_complete htay fun _ => rfl,
    plain_of_complete htxa fun _ => rfl, plain_of_complete htya fun _ => rfl, plain_of_complete htsx fun _ => rfl,
    plain_of_complete htxs fun _ => rfl⟩

/-! ## Pushes and pulls -/

/-- PHP and BRK push the status byte with bit 4 set (R166, R353). -/
theorem statusWithBreak_eq_statusByte (s : State) : statusWithBreak s = statusByte true s := by
  have hset : statusWithBreak s = packStatus { s with B := true } := by
    refine BitVec.eq_of_getLsbD_eq fun k hk => ?_
    simp only [statusWithBreak, BitVec.getLsbD_or, getLsbD_packStatus]
    interval_cases k <;> simp
  rw [hset, packStatus_eq_statusByte]
  rfl

/-- An instruction that pushes one byte and ends: its accesses, its cost and what memory reads as. -/
theorem pushes_of_complete {i : Instr} {s : State} {n : Nat} {v : Byte} (hexec : exec i s = complete n (push8 v s))
    (hw : s.wellFormed = true) :
    ∃ t, exec i s = .next t ∧
      t = { ended n [.write (stackAddr s.S) v] s with S := low (s.S.toNat + 255) } ∧
      Stores s t [(stackAddr s.S, v)] := by
  refine ⟨_, hexec, ?_, stores_of_accessed hw [.write (stackAddr s.S) v] rfl rfl rfl⟩
  rw [push8_eq_accessed, sub_one_eq_low, ← charge_accessed]
  rfl

/-- Settles O16: both are one push (`pushes_of_complete`), PHP of the status byte with bit 4 set. -/
theorem pushInstructions : Obligations.PushInstructions := by
  refine ⟨hasForms_of_entries (by decide) (by decide), hasForms_of_entries (by decide) (by decide), fun s hw => ?_⟩
  have hphp : exec .php s = complete 3 (push8 (statusWithBreak s) s) := rfl
  rw [statusWithBreak_eq_statusByte] at hphp
  exact ⟨pushes_of_complete (i := .pha) rfl hw, pushes_of_complete hphp hw⟩

/-- Settles O17: both are one pull, and their effects on the byte pulled are those of the statement. -/
theorem pullInstructions : Obligations.PullInstructions := by
  refine ⟨hasForms_of_entries (by decide) (by decide), hasForms_of_entries (by decide) (by decide), ?_⟩
  rintro s _ rfl
  have hpla : exec .pla s = complete 4 (loadA (pull8 s).1 (pull8 s).2) := rfl
  have hplp : exec .plp s = complete 4 (unpackStatus (pull8 s).1 (pull8 s).2) := rfl
  rw [pull8_eq_accessed, add_one_eq_low, loadA_eq_withA] at hpla
  rw [pull8_eq_accessed, add_one_eq_low, unpackStatus_eq_withStatus] at hplp
  exact ⟨accesses_of_complete hpla fun _ => rfl, accesses_of_complete hplp fun _ => rfl⟩

end Sys2Proof.Proofs
end

section
/-! PROOFS. Binary and decimal sums and differences (R182, R183, R184, R186). -/

namespace Sys2Proof.Proofs

open Sys2Proof.Machine Sys2Proof.Claims

/-! ## The binary sum and its overflow -/

theorem toNat_addBinary_r (a v : Byte) (c : Bool) :
    (addBinary a v c).r.toNat = (a.toNat + v.toNat + c.toNat) % 256 :=
  BitVec.toNat_ofNat _ 8

theorem and_bit7_ne_zero (x : Byte) : (x &&& 0x80#8 != 0#8) = x.msb := by
  have hmask : x &&& 0x80#8 = if x.msb then 0x80#8 else 0#8 := BitVec.and_twoPow x 7
  rw [hmask]
  cases x.msb <;> rfl

theorem msb_eq_bit7 (x : Byte) : x.msb = bit7 x := BitVec.msb_eq_decide x

/-- The formula of R182, bit by bit: the operands agree in bit 7 and the result does not. -/
theorem addBinary_ov_eq_bit7 (a v : Byte) (c : Bool) :
    (addBinary a v c).ov = (bit7 a == bit7 v && bit7 (addBinary a v c).r != bit7 a) := by
  have hov : (addBinary a v c).ov = (~~~(a ^^^ v) &&& (a ^^^ (addBinary a v c).r)).msb := and_bit7_ne_zero _
  rw [hov, BitVec.msb_and, BitVec.msb_not, BitVec.msb_xor, BitVec.msb_xor, msb_eq_bit7, msb_eq_bit7, msb_eq_bit7]
  cases bit7 a <;> cases bit7 v <;> cases bit7 (addBinary a v c).r <;> rfl

theorem addBinary_ov_iff (a v : Byte) (c : Bool) :
    (addBinary a v c).ov = true ↔ bit7 a = bit7 v ∧ bit7 (addBinary a v c).r ≠ bit7 a := by
  rw [addBinary_ov_eq_bit7, Bool.and_eq_true, beq_iff_eq, bne_iff_ne]

theorem overflows_iff (r : Int) : overflows r = true ↔ r < -128 ∨ 127 < r := decide_eq_true_iff

/-- The overflow says that the signed sum does not fit (R183). -/
theorem addBinary_ov_eq_overflows (a v : Byte) (c : Bool) :
    (addBinary a v c).ov = overflows (signed a + signed v + c.toNat) := by
  have := a.isLt
  have := v.isLt
  have := c.toNat_lt
  rw [Bool.eq_iff_iff, addBinary_ov_iff, overflows_iff]
  simp only [bit7, signed, toNat_addBinary_r, ne_eq, decide_eq_decide]
  omega

/-! ## The binary difference, as a sum with the one's complement -/

theorem toNat_xor_FF (v : Byte) : (v ^^^ 0xFF#8).toNat = 255 - v.toNat := by
  have hnot : v ^^^ 0xFF#8 = ~~~v := BitVec.xor_allOnes
  rw [hnot, BitVec.toNat_not]

theorem signed_xor_FF (v : Byte) : signed (v ^^^ 0xFF#8) = -1 - signed v := by
  have := v.isLt
  simp only [signed, toNat_xor_FF]
  omega

theorem addBinary_xor_FF_ov (a v : Byte) (c : Bool) :
    (addBinary a (v ^^^ 0xFF#8) c).ov = overflows (signed a - signed v - (1 - (c.toNat : Int))) := by
  rw [addBinary_ov_eq_overflows, signed_xor_FF]
  congr 1
  omega

/-- The sum with the one's complement is the difference of R185, raised by 256. -/
theorem sum_xor_FF (a v : Byte) (c : Bool) :
    ((a.toNat + (v ^^^ 0xFF#8).toNat + c.toNat : Nat) : Int) =
      (a.toNat : Int) - v.toNat - (1 - (c.toNat : Int)) + 256 := by
  have := v.isLt
  rw [toNat_xor_FF]
  omega

theorem addBinary_xor_FF_r (a v : Byte) (c : Bool) :
    (addBinary a (v ^^^ 0xFF#8) c).r = BitVec.ofInt 8 ((a.toNat : Int) - v.toNat - (1 - (c.toNat : Int))) := by
  have := sum_xor_FF a v c
  refine BitVec.eq_of_toNat_eq ?_
  rw [toNat_addBinary_r, BitVec.toNat_ofInt]
  omega

/-- The carry of the sum with the one's complement says that nothing is borrowed (R185). -/
theorem addBinary_xor_FF_cb (a v : Byte) (c : Bool) :
    (addBinary a (v ^^^ 0xFF#8) c).cb = decide (0 ≤ (a.toNat : Int) - v.toNat - (1 - (c.toNat : Int))) := by
  have := sum_xor_FF a v c
  refine decide_eq_decide.mpr ?_
  omega

/-- Settles O18: the formula bit by bit (`addBinary_ov_iff`), then the signed sum by its bounds. -/
theorem binaryAdditionAndOverflow : Obligations.BinaryAdditionAndOverflow := fun a v c =>
  ⟨toNat_addBinary_r a v c, rfl, rfl, addBinary_ov_iff a v c, addBinary_ov_eq_overflows a v c,
    addBinary_xor_FF_ov a v c⟩

/-! ## Decimal sums and differences -/

/-- A nibble sum is corrected, and then carries, exactly above 9 (R184). -/
theorem addDecimal_eq_decimalSum (a v : Byte) (c : Bool) :
    addDecimal a v c = ⟨low (decimalSum a v c).1, (decimalSum a v c).2⟩ := by
  have hcorrect (n : Nat) : (if n > 9 then n + 6 else n) = n + 6 * if 9 < n then 1 else 0 := by split <;> rfl
  have hcarry (n : Nat) : (n + 6 * if 9 < n then 1 else 0) > 0x0F ↔ 9 < n := by split <;> omega
  simp only [addDecimal, decimalSum, hcorrect, hcarry, low]

/-- A nibble difference is corrected exactly where it borrows (R186). -/
theorem subDecimal_eq_decimalDifference (a v : Byte) (c : Bool) : subDecimal a v c = low (decimalDifference a v c) := by
  have hcorrect (n : Int) : (if n < 0 then n - 6 else n) = n - if n < 0 then 6 else 0 := by split <;> omega
  have hborrow (n : Int) : 6 * (if n < 0 then 1 else 0) = if n < 0 then (6 : Int) else 0 := by split <;> rfl
  simp only [subDecimal, decimalDifference, hcorrect, hborrow, low]

end Sys2Proof.Proofs
end

section
/-! PROOFS. ADC, SBC and the compares: their effects on the state, and the instructions (R181, R185, R187 to R191). -/

namespace Sys2Proof.Proofs

open Sys2Proof.Machine Sys2Proof.Claims

/-! ## The effects on the state -/

theorem addToA_eq_afterAdd (m : Byte) (s : State) : addToA m s = afterAdd m s := by
  rw [addToA_eq, updateZN_eq_withZN, withZN, addBinary_ov_eq_overflows, toNat_addBinary_r, addDecimal_eq_decimalSum]
  rfl

/-- `Z` and `N` of a difference reduced to a byte. -/
theorem withZN_ofInt (n : Int) (s : State) :
    withZN (BitVec.ofInt 8 n) s = { s with Z := decide (n % 256 = 0), N := decide (128 ≤ n % 256) } := by
  have hz : (BitVec.ofInt 8 n).toNat = 0 ↔ n % 256 = 0 := by
    rw [BitVec.toNat_ofInt]
    omega
  have hn : 128 ≤ (BitVec.ofInt 8 n).toNat ↔ 128 ≤ n % 256 := by
    rw [BitVec.toNat_ofInt]
    omega
  simp only [withZN, hz, hn]

theorem subtractFromA_eq_afterSubtract (m : Byte) (s : State) : subtractFromA m s = afterSubtract m s := by
  simp only [subtractFromA, addBinary_xor_FF_r, addBinary_xor_FF_cb, addBinary_xor_FF_ov,
    subDecimal_eq_decimalDifference, updateZN_eq_withZN, withZN_ofInt]
  rfl

theorem difference9_lt_iff (reg m : Byte) : difference9 reg m < 0x100 ↔ m.toNat ≤ reg.toNat := by
  have := reg.isLt
  have := m.isLt
  rw [difference9]
  omega

/-- The 9-bit difference of R187 decides the three flags. -/
theorem compare_eq_afterCompare (reg m : Byte) (s : State) :
    Sys2Proof.Machine.compare reg m s = afterCompare reg m s := by
  have hr : (BitVec.ofNat 8 (difference9 reg m)).toNat = (reg.toNat + 256 - m.toNat) % 256 := by
    rw [BitVec.toNat_ofNat, difference9]
    omega
  have hz : (reg.toNat + 256 - m.toNat) % 256 = 0 ↔ reg.toNat = m.toNat := by
    have := reg.isLt
    have := m.isLt
    omega
  simp only [Sys2Proof.Machine.compare, updateZN_eq_withZN, withZN, hr, hz, difference9_lt_iff]
  rfl

/-! ## ADC and SBC as instructions -/

/-- Settles O21: ADC is a read operation whose effect is that of the statement (`addToA_eq_afterAdd`). -/
theorem addWithCarry : Obligations.AddWithCarry := by
  refine ⟨hasForms_of_entries (by decide) (by decide), fun i s hi => ?_⟩
  exact reads_of_effect (congrArg effect hi) (by rw [hi]; rfl)
    (fun n m t => congrArg (charge n .normal) (addToA_eq_afterAdd m t)) s

/-- Settles O22: SBC is a read operation whose effect is that of the statement (`subtractFromA_eq_afterSubtract`). -/
theorem subtractWithBorrow : Obligations.SubtractWithBorrow := by
  refine ⟨hasForms_of_entries (by decide) (by decide), fun i s hi => ?_⟩
  exact reads_of_effect (congrArg effect hi) (by rw [hi]; rfl)
    (fun n m t => congrArg (charge n .normal) (subtractFromA_eq_afterSubtract m t)) s

/-! ## The compares as instructions -/

theorem accessed_A (acc : List BusAccess) (s : State) : (accessed acc s).A = s.A := by
  rw [accessed, after_frame]

theorem accessed_X (acc : List BusAccess) (s : State) : (accessed acc s).X = s.X := by
  rw [accessed, after_frame]

theorem accessed_Y (acc : List BusAccess) (s : State) : (accessed acc s).Y = s.Y := by
  rw [accessed, after_frame]

/-- A compare takes the register that it finds before its accesses and its charge, which leave `reg` alone. -/
theorem reads_of_compare {i : Instr} {reg : State → Byte}
    (he : effect i.operation = .read fun m t => Sys2Proof.Machine.compare (reg t) m t)
    (hc : opClass i.operation i.operand.mode = .read) (hcharge : ∀ n t, reg (charge n .normal t) = reg t)
    (haccessed : ∀ acc t, reg (accessed acc t) = reg t) (s : State) : Reads i s (afterCompare (reg s)) := by
  have hcomm (n : Nat) (m : Byte) (t : State) : charge n .normal (Sys2Proof.Machine.compare (reg t) m t) =
      afterCompare (reg (charge n .normal t)) m (charge n .normal t) := by
    rw [hcharge, compare_eq_afterCompare]
    rfl
  obtain ⟨v, hv, hexec⟩ := reads_of_effect (g := fun m t => afterCompare (reg t) m t) he hc hcomm s
  have hreg : reg (ended (cost i s) (operandReads i.operand s) s) = reg s := by
    rw [← charge_accessed, hcharge, haccessed]
  exact ⟨v, hv, by simpa only [hreg] using hexec⟩

/-- Settles O23: `Compare` is `compare_eq_afterCompare`, and the instructions are compares of A, X and Y
(`reads_of_compare`). -/
theorem comparesSetFlags : Obligations.ComparesSetFlags := by
  refine ⟨fun reg m s => ⟨compare_eq_afterCompare reg m s, decide_eq_decide.mpr (difference9_lt_iff reg m)⟩,
    hasForms_of_entries (by decide) (by decide), hasForms_of_entries (by decide) (by decide),
    hasForms_of_entries (by decide) (by decide), fun i s => ⟨fun hi => ?_, fun hi => ?_, fun hi => ?_⟩⟩
  · exact reads_of_compare (congrArg effect hi) (by rw [hi]; rfl) (fun _ _ => rfl) accessed_A s
  · exact reads_of_compare (congrArg effect hi) (by rw [hi]; rfl) (fun _ _ => rfl) accessed_X s
  · exact reads_of_compare (congrArg effect hi) (by rw [hi]; rfl) (fun _ _ => rfl) accessed_Y s

end Sys2Proof.Proofs
end

section
/-! PROOFS. The shape of a read operation that uses `A`, and the shape of a read-modify-write operation on memory (R136,
R280). -/

namespace Sys2Proof.Proofs

open Sys2Proof.Machine Sys2Proof.Claims

theorem ended_A (n : Nat) (acc : List BusAccess) (s : State) : (ended n acc s).A = s.A := by
  rw [← charge_accessed, charge_A, accessed_A]

/-- A read operation that uses `A` finds there what stood in it before its accesses: they leave `A` alone. -/
theorem reads_of_effect_on_A {i : Instr} {f : Byte → State → State} {g : Byte → Byte → State → State}
    (he : effect i.operation = .read f) (hc : opClass i.operation i.operand.mode = .read)
    (hf : ∀ m t, f m t = g t.A m t)
    (hg : ∀ n a m t, charge n .normal (g a m t) = g a m (charge n .normal t)) (s : State) : Reads i s (g s.A) := by
  have hfg (n : Nat) (m : Byte) (t : State) :
      charge n .normal (f m t) = g (charge n .normal t).A m (charge n .normal t) := by
    rw [hf, hg, charge_A]
  obtain ⟨v, hv, hexec⟩ := reads_of_effect (g := fun m t => g t.A m t) he hc hfg s
  refine ⟨v, hv, ?_⟩
  simpa only [ended_A] using hexec

/-- The operations that have a form on the accumulator (R230). -/
abbrev accumulatorOperations : List Operation := [.asl, .lsr, .rol, .ror]

theorem mode_of_opClass_readModifyWrite (op : Byte) :
    opClass (dispatchEntry op).operation (dispatchEntry op).mode = .readModifyWrite →
      (dispatchEntry op).mode ∉ [none, some .imp, some .imm, some .ind, some .rel] ∧
        ((dispatchEntry op).mode = some .acc → (dispatchEntry op).operation ∈ accumulatorOperations) :=
  forall_byte (P := fun op => opClass (dispatchEntry op).operation (dispatchEntry op).mode = .readModifyWrite →
    (dispatchEntry op).mode ∉ [none, some .imp, some .imm, some .ind, some .rel] ∧
      ((dispatchEntry op).mode = some .acc → (dispatchEntry op).operation ∈ accumulatorOperations)) (by decide) op

/-- A read-modify-write operation has a byte of memory as its operand, or it is a shift of `A` (R122, R136). -/
theorem operand_of_opClass_readModifyWrite {i : Instr}
    (hc : opClass i.operation i.operand.mode = .readModifyWrite) :
    (i.operand = .acc ∧ i.operation ∈ accumulatorOperations) ∨ ∃ m, i.operand = .mem m := by
  obtain ⟨hmode, hacc⟩ := operation_mode_of_entries
    (P := fun o m => opClass o m = .readModifyWrite →
      m ∉ [none, some .imp, some .imm, some .ind, some .rel] ∧ (m = some .acc → o ∈ accumulatorOperations))
    mode_of_opClass_readModifyWrite i hc
  cases ho : i.operand with
  | acc => exact .inl ⟨rfl, hacc (by rw [ho]; rfl)⟩
  | mem m => exact .inr ⟨m, rfl⟩
  | _ => simp [ho, Operand.mode] at hmode

/-- The body of a read-modify-write operation on memory: the reads of its operand, then `f` on the value `v`, the write
of `f`'s result at the same address, and `g` on that result. -/
theorem body_modify_eq (m : MemOperand) (s : State) :
    ∃ v, operandValue (.mem m) s = some v ∧ ∀ (f : Byte → State → Byte × State) (g : Byte → State → State),
      (Effect.modify f g).body (.mem m) s =
        g (f v (accessed (operandReads (.mem m) s) s)).1
          (memWrite (effectiveAddress m s) (f v (accessed (operandReads (.mem m) s) s)).1
            (f v (accessed (operandReads (.mem m) s) s)).2) := by
  refine ⟨_, rfl, fun f g => ?_⟩
  simp only [Effect.body, resolve_snd_eq_accessed, memRead_accessed]
  rfl

theorem writesOf_operandReads (o : Operand) (s : State) : writesOf (operandReads o s) = [] := by
  cases o with
  | mem m => exact (writesOf_append _ _).trans (by rw [writesOf_pointerReads]; rfl)
  | _ => rfl

/-- A read-modify-write operation on memory completes with `h` on the value read, after its reads and its one write,
where `r` is its result and `h` its effect in the statement's terms.  What `f` and `g` do beside that commutes with the
write and the charge (`heffect`), and `h` leaves memory alone (`hkeeps`). -/
theorem modifies_of_effect {i : Instr} {m : MemOperand} {f : Byte → State → Byte × State} {g : Byte → State → State}
    {r : Byte → Byte} {h : Byte → State → State} {s : State} (he : effect i.operation = .modify f g)
    (ho : i.operand = .mem m) (hw : s.wellFormed = true) (hresult : ∀ v acc, (f v (accessed acc s)).1 = r v)
    (heffect : ∀ n v a acc, charge n .normal (g (r v) (memWrite a (r v) (f v (accessed acc s)).2)) =
      h v (charge n .normal (memWrite a (r v) (accessed acc s))))
    (hkeeps : ∀ v t, (h v t).mem = t.mem ∧ (h v t).providerState = t.providerState ∧ (h v t).cfg = t.cfg) :
    Modifies i s r h := by
  have hk : i.operation ≠ .kil := fun hkil => by simp [hkil, effect] at he
  obtain ⟨v, hv, hbody⟩ := body_modify_eq m s
  have hexec := exec_eq_charge_cost hk (by simp [he]) s
  rw [he, ho, hbody, hresult, heffect, memWrite_accessed, charge_accessed] at hexec
  simp only [Modifies, ho]
  refine ⟨v, _, hv, hexec, rfl, ?_⟩
  obtain ⟨hmem, hprov, hcfg⟩ := hkeeps v (ended (cost i s)
    (operandReads (.mem m) s ++ [.write (effectiveAddress m s) (r v)]) s)
  have hstores := stores_of_accessed hw _ hmem hprov (hcfg.trans (after_cfg s _))
  rwa [writesOf_append, writesOf_operandReads] at hstores

end Sys2Proof.Proofs
end

section
/-! PROOFS. Logic, the bit test, increment and decrement (R200 to R209). -/

namespace Sys2Proof.Proofs

open Sys2Proof.Machine Sys2Proof.Claims

/-! ## Logic -/

theorem andA_eq_withA (m : Byte) (s : State) : andA m s = withA (s.A &&& m) s := loadA_eq_withA (s.A &&& m) s

theorem orA_eq_withA (m : Byte) (s : State) : orA m s = withA (s.A ||| m) s := loadA_eq_withA (s.A ||| m) s

theorem xorA_eq_withA (m : Byte) (s : State) : xorA m s = withA (s.A ^^^ m) s := loadA_eq_withA (s.A ^^^ m) s

/-- Settles O24: each is a read operation that loads `A` with its combination of `A` and the operand's value. -/
theorem logicOnAccumulator : Obligations.LogicOnAccumulator := by
  refine ⟨hasForms_of_entries (by decide) (by decide), hasForms_of_entries (by decide) (by decide),
    hasForms_of_entries (by decide) (by decide), fun i s => ⟨fun hi => ?_, fun hi => ?_, fun hi => ?_⟩⟩
  · exact reads_of_effect_on_A (g := fun a m => withA (a &&& m)) (congrArg effect hi) (by rw [hi]; rfl)
      andA_eq_withA (fun _ _ _ _ => rfl) s
  · exact reads_of_effect_on_A (g := fun a m => withA (a ||| m)) (congrArg effect hi) (by rw [hi]; rfl)
      orA_eq_withA (fun _ _ _ _ => rfl) s
  · exact reads_of_effect_on_A (g := fun a m => withA (a ^^^ m)) (congrArg effect hi) (by rw [hi]; rfl)
      xorA_eq_withA (fun _ _ _ _ => rfl) s

/-! ## The bit test -/

/-- The flags of the bit test: `Z` from `a` AND `m`, `N` and `V` from bits 7 and 6 of `m` (R203). -/
def withBitTest (a m : Byte) (s : State) : State :=
  { s with Z := decide ((a &&& m).toNat = 0), N := bit7 m, V := decide (m.toNat / 64 % 2 = 1) }

theorem bitTest_eq_withBitTest (m : Byte) (s : State) : bitTest m s = withBitTest s.A m s := by
  have hz : ((s.A &&& m) == 0#8) = decide ((s.A &&& m).toNat = 0) := by
    rw [beq_eq_decide]
    exact decide_eq_decide.mpr BitVec.toNat_eq
  have hn : m.getLsbD 7 = bit7 m := msb_eq_bit7 m
  have hv : m.getLsbD 6 = decide (m.toNat / 64 % 2 = 1) := getLsbD_eq_decide m 6
  rw [bitTest, withBitTest, hz, hn, hv]

/-- Settles O25: BIT is a read operation whose effect is that of the statement (`bitTest_eq_withBitTest`). -/
theorem bitTest : Obligations.BitTest := by
  refine ⟨hasForms_of_entries (by decide) (by decide), fun i s hi => ?_⟩
  exact reads_of_effect_on_A (congrArg effect hi) (by rw [hi]; rfl) bitTest_eq_withBitTest (fun _ _ _ _ => rfl) s

/-! ## Increment and decrement -/

/-- An operation on memory whose result is `r` and that writes `Z` and `N` alone. -/
theorem modifies_of_updateZN {i : Instr} {f : Byte → State → Byte × State} {r : Byte → Byte} {s : State}
    (he : effect i.operation = .modify f updateZN) (hc : opClass i.operation i.operand.mode = .readModifyWrite)
    (hacc : i.operation ∉ accumulatorOperations) (hw : s.wellFormed = true) (hf : ∀ v t, f v t = (r v, t)) :
    Modifies i s r fun v => withZN (r v) := by
  obtain ⟨-, hshift⟩ | ⟨m, ho⟩ := operand_of_opClass_readModifyWrite hc
  · exact absurd hshift hacc
  · refine modifies_of_effect he ho hw (fun v acc => by rw [hf]) (fun n v a acc => ?_) fun _ _ => ⟨rfl, rfl, rfl⟩
    rw [hf, updateZN_eq_withZN]
    rfl

theorem increment_eq_low (m : Byte) (s : State) : increment m s = (low (m.toNat + 1), s) := by
  rw [increment, add_one_eq_low]

theorem decrement_eq_low (m : Byte) (s : State) : decrement m s = (low (m.toNat + 255), s) := by
  rw [decrement, sub_one_eq_low]

/-- Settles O26: both write back one more or one less, and `Z` and `N` (`modifies_of_updateZN`). -/
theorem incrementAndDecrementMemory : Obligations.IncrementAndDecrementMemory := by
  refine ⟨hasForms_of_entries (by decide) (by decide), hasForms_of_entries (by decide) (by decide),
    fun i s hw => ⟨fun hi => ?_, fun hi => ?_⟩⟩
  · exact modifies_of_updateZN (congrArg effect hi) (by rw [hi]; rfl) (by rw [hi]; decide) hw increment_eq_low
  · exact modifies_of_updateZN (congrArg effect hi) (by rw [hi]; rfl) (by rw [hi]; decide) hw decrement_eq_low

/-- Settles O27: each completes without an access and loads its register with one more or one less. -/
theorem incrementAndDecrementIndex : Obligations.IncrementAndDecrementIndex := by
  refine ⟨hasForms_of_entries (by decide) (by decide), hasForms_of_entries (by decide) (by decide),
    hasForms_of_entries (by decide) (by decide), hasForms_of_entries (by decide) (by decide), fun s => ?_⟩
  have hinx : exec .inx s = complete 2 (loadX (s.X + 1) s) := rfl
  have hiny : exec .iny s = complete 2 (loadY (s.Y + 1) s) := rfl
  have hdex : exec .dex s = complete 2 (loadX (s.X - 1) s) := rfl
  have hdey : exec .dey s = complete 2 (loadY (s.Y - 1) s) := rfl
  rw [add_one_eq_low, loadX_eq_withX] at hinx
  rw [add_one_eq_low, loadY_eq_withY] at hiny
  rw [sub_one_eq_low, loadX_eq_withX] at hdex
  rw [sub_one_eq_low, loadY_eq_withY] at hdey
  exact ⟨plain_of_complete hinx fun _ => rfl, plain_of_complete hiny fun _ => rfl,
    plain_of_complete hdex fun _ => rfl, plain_of_complete hdey fun _ => rfl⟩

end Sys2Proof.Proofs
end

section
/-! PROOFS. Shifts and rotates (R230 to R234). -/

namespace Sys2Proof.Proofs

open Sys2Proof.Machine Sys2Proof.Claims

/-! ## The four operations on a byte -/

theorem toNat_flagBit (c : Bool) {n : Nat} (hn : n < 8) : (flagBit c n).toNat = 2 ^ n * c.toNat := by
  cases c
  · rfl
  · exact (BitVec.toNat_twoPow_of_lt hn).trans (Nat.mul_one _).symm

theorem toNat_shiftLeft_one (m : Byte) : (m <<< 1).toNat = 2 * m.toNat % 256 := by
  rw [BitVec.toNat_shiftLeft, Nat.shiftLeft_eq, Nat.mul_comm]

theorem toNat_shiftRight_one (m : Byte) : (m >>> 1).toNat = m.toNat / 2 :=
  Nat.shiftRight_one m.toNat

/-- A carry that enters a vacated bit is added. -/
theorem or_flagBit_eq_add {b : Byte} {n : Nat} (hn : n < 8) (hvacated : b.getLsbD n = false) (c : Bool) :
    b ||| flagBit c n = b + flagBit c n := by
  refine (BitVec.add_eq_or_of_and_eq_zero _ _ (BitVec.eq_of_getLsbD_eq fun k _ => ?_)).symm
  rw [BitVec.getLsbD_and, getLsbD_flagBit c hn, BitVec.getLsbD_zero]
  by_cases hk : k = n
  · rw [hk, hvacated, Bool.false_and]
  · rw [decide_eq_false hk, Bool.and_false, Bool.and_false]

theorem shiftLeft_or_flagBit (c : Bool) (m : Byte) : m <<< 1 ||| flagBit c 0 = rol c m := by
  have hvacated : (m <<< 1).getLsbD 0 = false := by simp
  rw [or_flagBit_eq_add (by decide) hvacated]
  refine BitVec.eq_of_toNat_eq ?_
  rw [BitVec.toNat_add, toNat_shiftLeft_one, toNat_flagBit c (by decide), rol, low, BitVec.toNat_ofNat]
  omega

theorem shiftRight_or_flagBit (c : Bool) (m : Byte) : m >>> 1 ||| flagBit c 7 = ror c m := by
  have hvacated : (m >>> 1).getLsbD 7 = false := by simp
  rw [or_flagBit_eq_add (by decide) hvacated]
  refine BitVec.eq_of_toNat_eq ?_
  rw [BitVec.toNat_add, toNat_shiftRight_one, toNat_flagBit c (by decide), ror, low, BitVec.toNat_ofNat]
  rfl

theorem getLsbD_seven_eq_bit7 (m : Byte) : m.getLsbD 7 = bit7 m := msb_eq_bit7 m

theorem getLsbD_zero_eq_bit0 (m : Byte) : m.getLsbD 0 = bit0 m := by
  rw [getLsbD_eq_decide, Nat.pow_zero, Nat.div_one, bit0]

theorem shiftLeft_eq_asl (m : Byte) (s : State) : shiftLeft m s = (asl m, { s with C := bit7 m }) := by
  have hresult : m <<< 1 = asl m := BitVec.eq_of_toNat_eq (toNat_shiftLeft_one m)
  rw [shiftLeft, hresult, getLsbD_seven_eq_bit7]

theorem shiftRight_eq_lsr (m : Byte) (s : State) : shiftRight m s = (lsr m, { s with C := bit0 m }) := by
  have hresult : m >>> 1 = lsr m := by
    rw [lsr, ← toNat_shiftRight_one, low, BitVec.ofNat_toNat, BitVec.setWidth_eq]
  rw [shiftRight, hresult, getLsbD_zero_eq_bit0]

theorem rotateLeft_eq_rol (m : Byte) (s : State) : rotateLeft m s = (rol s.C m, { s with C := bit7 m }) := by
  rw [rotateLeft, shiftLeft_or_flagBit, getLsbD_seven_eq_bit7]

theorem rotateRight_eq_ror (m : Byte) (s : State) : rotateRight m s = (ror s.C m, { s with C := bit0 m }) := by
  rw [rotateRight, shiftRight_or_flagBit, getLsbD_zero_eq_bit0]

/-! ## The instructions -/

theorem accessed_C (acc : List BusAccess) (s : State) : (accessed acc s).C = s.C := by
  rw [accessed, after_frame]

/-- A read-modify-write operation on the accumulator completes with `h` on `A`, after the write of its result `r` to
`A` (R122). -/
theorem modifies_of_effect_acc {i : Instr} {f : Byte → State → Byte × State} {g : Byte → State → State}
    {r : Byte → Byte} {h : Byte → State → State} {s : State} (he : effect i.operation = .modify f g)
    (ho : i.operand = .acc) (hresult : (f s.A s).1 = r s.A)
    (heffect : ∀ n, charge n .normal (g (r s.A) { (f s.A s).2 with A := r s.A }) =
      h s.A { charge n .normal s with A := r s.A }) :
    Modifies i s r h := by
  have hk : i.operation ≠ .kil := fun hkil => by simp [hkil, effect] at he
  have hexec := exec_eq_charge_cost hk (by simp [he]) s
  simp only [he, ho, Effect.body, hresult, heffect] at hexec
  simp only [Modifies, ho]
  rwa [← charge_accessed, accessed_nil]

/-- An operation whose result is `r` of the carry that it finds and of its operand, and whose new carry is `carry` of
its operand.  Its accesses leave the carry that it finds alone. -/
theorem modifies_of_shift {i : Instr} {f : Byte → State → Byte × State} {r : Bool → Byte → Byte}
    {carry : Byte → Bool} {s : State} (he : effect i.operation = .modify f updateZN)
    (hc : opClass i.operation i.operand.mode = .readModifyWrite) (hw : s.wellFormed = true)
    (hf : ∀ m t, f m t = (r t.C m, { t with C := carry m })) :
    Modifies i s (r s.C) fun m t => withZN (r s.C m) { t with C := carry m } := by
  obtain ⟨ho, -⟩ | ⟨m, ho⟩ := operand_of_opClass_readModifyWrite hc
  · refine modifies_of_effect_acc he ho (by rw [hf]) fun n => ?_
    rw [hf, updateZN_eq_withZN]
    rfl
  · refine modifies_of_effect he ho hw (fun v acc => by rw [hf, accessed_C]) (fun n v a acc => ?_)
      fun _ _ => ⟨rfl, rfl, rfl⟩
    rw [hf, updateZN_eq_withZN]
    rfl

/-- Settles O28: each is a `modifies_of_shift` whose result and carry are those of the statement. -/
theorem shiftsAndRotates : Obligations.ShiftsAndRotates := by
  refine ⟨hasForms_of_entries (by decide) (by decide), hasForms_of_entries (by decide) (by decide),
    hasForms_of_entries (by decide) (by decide), hasForms_of_entries (by decide) (by decide),
    fun i s hw => ⟨fun hi => ?_, fun hi => ?_, fun hi => ?_, fun hi => ?_⟩⟩
  · exact modifies_of_shift (r := fun _ => asl) (congrArg effect hi) (by rw [hi]; rfl) hw shiftLeft_eq_asl
  · exact modifies_of_shift (r := fun _ => lsr) (congrArg effect hi) (by rw [hi]; rfl) hw shiftRight_eq_lsr
  · exact modifies_of_shift (congrArg effect hi) (by rw [hi]; rfl) hw rotateLeft_eq_rol
  · exact modifies_of_shift (congrArg effect hi) (by rw [hi]; rfl) hw rotateRight_eq_ror

end Sys2Proof.Proofs
end

section
/-! PROOFS. JMP absolute, JSR and RTS (R240, R242, R243), and the return from a subroutine. -/

namespace Sys2Proof.Proofs

open Sys2Proof.Machine Sys2Proof.Claims

/-! ## JSR -/

/-- The two pushes of JSR: the address of its own last byte, high byte first (R242, D4). -/
def returnPushes (s : State) : List (Addr × Byte) :=
  [(stackAddr s.S, low ((s.PC - 1).toNat / 256)), (stackAddr (s.S - 1), low (s.PC - 1).toNat)]

/-- The state that a JSR to `w` leaves: its two pushes, its 6 cycles, its target (R242). -/
def afterJsr (w : Addr) (s : State) : State :=
  { ended 6 (busWrites (returnPushes s)) s with S := s.S - 2, PC := w }

theorem exec_jsr (w : Addr) (s : State) : exec (.jsr w) s = .next (afterJsr w s) := by
  have hexec : exec (.jsr w) s = complete 6 (call w s) := rfl
  have htwo : s.S - 1 - 1 = s.S - 2 := by bv_omega
  rw [hexec, call, push16_eq_accessed, htwo, complete, afterJsr, ← charge_accessed]
  rfl

theorem stores_afterJsr {s : State} (hw : s.wellFormed = true) (w : Addr) :
    Stores s (afterJsr w s) (returnPushes s) :=
  stores_of_accessed hw (busWrites (returnPushes s)) rfl rfl (after_cfg s _)

/-! ## RTS -/

theorem exec_rts (s : State) :
    exec .rts s = .next { ended 6 [.read (stackAddr (s.S + 1)), .read (stackAddr (s.S + 2))] s with
      S := s.S + 2
      PC := word (readAfter s [.read (stackAddr (s.S + 1))] (stackAddr (s.S + 2)))
        (s.peek (stackAddr (s.S + 1))) + 1 } := by
  have hexec : exec .rts s = complete 6 (returnFromCall s) := rfl
  have htwo : s.S + 1 + 1 = s.S + 2 := by bv_omega
  rw [hexec, returnFromCall, pull16_eq_accessed, htwo, complete, ← charge_accessed]
  rfl

/-- With the default provider the first read of RTS does not change what the second finds (R64). -/
theorem exec_rts_default {s : State} (hp : s.cfg.provider = .default) :
    ∃ t, exec .rts s = .next t ∧
      t.PC = word (s.peek (stackAddr (s.S + 2))) (s.peek (stackAddr (s.S + 1))) + 1 ∧ t.S = s.S + 2 := by
  refine ⟨_, exec_rts s, ?_, rfl⟩
  rw [readAfter, after_cons, access_read, afterRead_default hp, after_nil]

/-- Settles O30: JSR is its two pushes (`exec_jsr`, `stores_afterJsr`) and RTS its two reads (`exec_rts`). -/
theorem jumpsAndSubroutines : Obligations.JumpsAndSubroutines := by
  refine ⟨hasForms_jmp, hasForms_of_entries (by decide) (by decide), hasForms_of_entries (by decide) (by decide),
    fun w s => plain_of_complete rfl fun _ => rfl, fun w s ret hw hret => ?_, ?_⟩
  · have hpushed : ret = (s.PC - 1).toNat := by bv_omega
    rw [hpushed]
    exact ⟨afterJsr w s, returnPushes s, rfl, exec_jsr w s, rfl, stores_afterJsr hw w⟩
  · rintro s _ _ rfl rfl
    have hnext (a : Addr) : BitVec.ofNat 16 (a.toNat + 1) = a + 1 := by bv_omega
    rw [Accesses, exec_rts, hnext]

/-! ## The return -/

/-- After writes to two different backed addresses each reads as the byte written to it. -/
theorem byteAfter_two_writes {s : State} {a b : Addr} (ha : backed s.cfg a = true) (hb : backed s.cfg b = true)
    (hne : b ≠ a) (v w : Byte) :
    byteAfter s [(a, v), (b, w)] a = v ∧ byteAfter s [(a, v), (b, w)] b = w := by
  simp [byteAfter, ha, hb, hne]

/-- On a backed stack page the two slots of the return address hold it after JSR, at the wrap of the page too. -/
theorem peek_slots_afterJsr {s : State} (hw : s.wellFormed = true) (hs : StackBacked s) (w : Addr) :
    (afterJsr w s).peek (stackAddr s.S) = low ((s.PC - 1).toNat / 256) ∧
      (afterJsr w s).peek (stackAddr (s.S - 1)) = low (s.PC - 1).toNat := by
  obtain ⟨hdefault, hbacked⟩ := hs
  have hne : stackAddr (s.S - 1) ≠ stackAddr s.S := fun h => by
    have hslot := stackAddr_injective h
    bv_omega
  rw [stores_afterJsr hw w hdefault, stores_afterJsr hw w hdefault]
  exact byteAfter_two_writes (hbacked s.S) (hbacked (s.S - 1)) hne _ _

/-- Settles O31: the slots above the `S` that JSR left are those of its pushes, and they hold `PC - 1`
(`peek_slots_afterJsr`), after which RTS goes on (`exec_rts_default`). -/
theorem subroutineReturnsAfterCall : Obligations.SubroutineReturnsAfterCall := by
  intro w s t u hw hs hcall hp hS hhigh hlow
  obtain rfl : afterJsr w s = t := Host.Outcome.next.inj ((exec_jsr w s).symm.trans hcall)
  obtain ⟨hpushedHigh, hpushedLow⟩ := peek_slots_afterJsr hw hs w
  have hleft : u.S = s.S - 2 := hS
  have hlowSlot : u.S + 1 = s.S - 1 := by bv_omega
  have hhighSlot : u.S + 2 = s.S := by bv_omega
  have hword : word (low ((s.PC - 1).toNat / 256)) (low (s.PC - 1).toNat) = s.PC - 1 := wordOf_high_low (s.PC - 1)
  obtain ⟨v, hv, hvPC, hvS⟩ := exec_rts_default hp
  refine ⟨v, hv, ?_, hvS.trans hhighSlot⟩
  rw [hvPC, hlowSlot, hhighSlot, hhigh, hlow, hpushedHigh, hpushedLow, hword, BitVec.sub_add_cancel]

end Sys2Proof.Proofs
end

section
/-! PROOFS. The conditional branches (R133, R244 to R252, R330). -/

namespace Sys2Proof.Proofs

open Sys2Proof.Machine Sys2Proof.Claims

/-! ## The target -/

theorem signed_eq_toInt (v : Byte) : signed v = v.toInt := by
  simp only [signed, BitVec.toInt_eq_toNat_cond]
  omega

/-- The offset is added modulo 65536 as a signed number (R133). -/
theorem toNat_add_signExtend (r : Byte) (s : State) : (s.PC + r.signExtend 16).toNat = branchTarget r s := by
  have hsum : s.PC + r.signExtend 16 = BitVec.ofInt 16 ((s.PC.toNat : Int) + signed r) := by
    rw [BitVec.ofInt_add, BitVec.ofInt_natCast, BitVec.ofNat_toNat, BitVec.setWidth_eq, signed_eq_toInt]
    rfl
  rw [hsum, BitVec.toNat_ofInt]
  rfl

theorem resolveRelative_eq (r : Byte) (s : State) :
    resolveRelative r s =
      ⟨BitVec.ofNat 16 (branchTarget r s), decide (s.PC.toNat / 256 ≠ branchTarget r s / 256)⟩ := by
  have haddr : s.PC + r.signExtend 16 = BitVec.ofNat 16 (branchTarget r s) := by
    rw [← toNat_add_signExtend, BitVec.ofNat_toNat, BitVec.setWidth_eq]
  rw [resolveRelative, pageCrossed_eq_decide, toNat_add_signExtend, haddr]

/-- A taken branch pays 1, and 1 more for another page (R330). -/
theorem branchExtra_eq (r : Byte) (s : State) : branchExtra r s = 1 + (resolveRelative r s).crossed.toNat := by
  rw [resolveRelative_eq, branchExtra]
  by_cases hpage : branchTarget r s / 256 = s.PC.toNat / 256
  · simp [hpage]
  · simp [hpage, Ne.symm hpage]

/-! ## The instructions -/

/-- An instruction with a relative operand is one of the eight branches, on the condition of its rule. -/
theorem exec_eq_branch {i : Instr} {r : Byte} (ho : i.operand = .rel r) (s : State) :
    ∃ taken, branchTaken i.operation s = some taken ∧ exec i s = branch taken r s := by
  cases i with
  | bpl b | bmi b | bvc b | bvs b | bcc b | bcs b | bne b | beq b =>
    obtain rfl : b = r := Operand.rel.inj ho
    exact ⟨_, rfl, rfl⟩
  | _ => cases ho

theorem plain_of_branch {i : Instr} {r : Byte} {s : State} {taken : Bool} (hexec : exec i s = branch taken r s) :
    Plain i s (if taken then 2 + branchExtra r s else 2)
      (fun t => { t with PC := if taken then BitVec.ofNat 16 (branchTarget r s) else s.PC }) := by
  refine plain_of_complete ?_ fun _ => rfl
  rw [hexec, branch_next, branchExtra_eq, complete, resolveRelative_eq]
  cases taken <;> rfl

/-- Settles O32: a relative operand is that of a branch (`exec_eq_branch`), which ends in `plain_of_branch`. -/
theorem conditionalBranches : Obligations.ConditionalBranches := by
  refine ⟨hasForms_of_entries (by decide) (by decide), hasForms_of_entries (by decide) (by decide),
    hasForms_of_entries (by decide) (by decide), hasForms_of_entries (by decide) (by decide),
    hasForms_of_entries (by decide) (by decide), hasForms_of_entries (by decide) (by decide),
    hasForms_of_entries (by decide) (by decide), hasForms_of_entries (by decide) (by decide), fun i r s ho => ?_⟩
  obtain ⟨taken, htaken, hexec⟩ := exec_eq_branch ho s
  exact ⟨taken, htaken, plain_of_branch hexec⟩

end Sys2Proof.Proofs
end

section
/-! PROOFS. The flag instructions and NOP, documented and undocumented (R270 to R277, R296). -/

namespace Sys2Proof.Proofs

open Sys2Proof.Machine Sys2Proof.Claims

/-- A NOP makes the reads of its operand and nothing more, whatever its mode (R296). -/
theorem body_read_discard (o : Operand) (s : State) :
    (Effect.read discard).body o s = accessed (operandReads o s) s := by
  cases o with
  | mem m =>
    obtain ⟨_, -, hbody⟩ := body_read_eq (.inr ⟨m, rfl⟩) s
    exact hbody discard
  | _ => exact (accessed_nil s).symm

/-- Settles O37: the body of a NOP is the reads of its operand (`body_read_discard`), then its cost is charged. -/
theorem undocumentedNops : Obligations.UndocumentedNops := by
  refine ⟨hasForms_of_entries (by decide) (by decide), fun i s hi => ?_⟩
  have heffect : effect i.operation = .read discard := congrArg effect hi
  rw [exec_eq_charge_cost (by simp [hi]) (by simp [heffect]), heffect, body_read_discard, charge_accessed]

/-- Settles O33: each flag instruction completes without an access, and writes its one flag. -/
theorem flagInstructionsAndNop : Obligations.FlagInstructionsAndNop := by
  refine ⟨hasForms_of_entries (by decide) (by decide), hasForms_of_entries (by decide) (by decide),
    hasForms_of_entries (by decide) (by decide), hasForms_of_entries (by decide) (by decide),
    hasForms_of_entries (by decide) (by decide), hasForms_of_entries (by decide) (by decide),
    hasForms_of_entries (by decide) (by decide), rfl, fun s => ⟨?clc, ?sec, ?cli, ?sei, ?cld, ?sed, ?clv, ?nop⟩⟩
  all_goals exact plain_of_complete rfl fun _ => rfl

end Sys2Proof.Proofs
end

section
/-! PROOFS. The undocumented loads, stores and read-modify-write operations on memory (R281 to R288, R294, R295). -/

namespace Sys2Proof.Proofs

open Sys2Proof.Machine Sys2Proof.Claims

/-! ## LAX, SAX, SHX and SHY -/

theorem loadAX_eq_withX_withA (v : Byte) (s : State) : loadAX v s = withX v (withA v s) :=
  updateZN_eq_withZN v { s with A := v, X := v }

/-- Settles O12: LAX is a read operation, whose effect is that of the statement. -/
theorem loadAccumulatorAndX : Obligations.LoadAccumulatorAndX := by
  refine ⟨hasForms_of_entries (by decide) (by decide), fun i s hi => ?_⟩
  exact reads_of_effect (congrArg effect hi) (by rw [hi]; rfl)
    (fun n v t => congrArg (charge n .normal) (loadAX_eq_withX_withA v t)) s

/-- What SHX and SHY store, in plain arithmetic: the high byte of the operand word is raised by 1 modulo 256 (D15). -/
theorem highByteMask_eq_and_low (reg : Byte) (w : Addr) : highByteMask reg w = reg &&& low (w.toNat / 256 + 1) := by
  have hnext : highByte w + 1 = low (w.toNat / 256 + 1) := by unfold highByte low; bv_omega
  rw [highByteMask, hnext]

/-- Settles O14: each is a store operation (`writes_of_effect`); SHX and SHY store the value of
`highByteMask_eq_and_low` at the indexed address of `indexed_eq`. -/
theorem undocumentedStores : Obligations.UndocumentedStores := by
  refine ⟨hasForms_of_entries (by decide) (by decide), hasForms_of_entries (by decide) (by decide),
    hasForms_of_entries (by decide) (by decide), fun i s hw hi => ?_, fun w s hw => ⟨?_, ?_, ?_, ?_⟩⟩
  · exact writes_of_effect (congrArg effect hi) (by rw [hi]; rfl) hw
  · rw [← highByteMask_eq_and_low]
    exact writes_of_effect (i := .shxAby w) rfl rfl hw
  · rw [effectiveAddress, resolve, indexed_eq]
  · rw [← highByteMask_eq_and_low]
    exact writes_of_effect (i := .shyAbx w) rfl rfl hw
  · rw [effectiveAddress, resolve, indexed_eq]

/-! ## Read-modify-write, then an operation on `A` -/

/-- A read-modify-write operation on memory alone: `f` gives the byte `r` of the carry that it finds and of the byte
read, and the new carry; then `g` does what `k` does with the `A` that it finds and the byte written.  The accesses
leave `A` and the carry alone, and `k` touches neither what the charge writes nor memory. -/
theorem modifies_then {i : Instr} {f : Byte → State → Byte × State} {g : Byte → State → State}
    {r : Bool → Byte → Byte} {carry : Bool → Byte → Bool} {k : Byte → Byte → State → State} {s : State}
    (he : effect i.operation = .modify f g) (hc : opClass i.operation i.operand.mode = .readModifyWrite)
    (hacc : i.operation ∉ accumulatorOperations) (hw : s.wellFormed = true)
    (hf : ∀ m t, f m t = (r t.C m, { t with C := carry t.C m })) (hg : ∀ v t, g v t = k t.A v t)
    (hk : ∀ n a v t, charge n .normal (k a v t) = k a v (charge n .normal t))
    (hkeeps : ∀ a v t, (k a v t).mem = t.mem ∧ (k a v t).providerState = t.providerState ∧ (k a v t).cfg = t.cfg) :
    Modifies i s (r s.C) fun m t => k s.A (r s.C m) { t with C := carry t.C m } := by
  obtain ⟨-, hshift⟩ | ⟨m, ho⟩ := operand_of_opClass_readModifyWrite hc
  · exact absurd hshift hacc
  · refine modifies_of_effect he ho hw (fun v acc => by rw [hf, accessed_C]) (fun n v a acc => ?_)
      fun v t => hkeeps _ _ _
    have hA (w : Byte) (c : Bool) : (memWrite a w { accessed acc s with C := c }).A = s.A := accessed_A acc s
    rw [hf, hg, hk, hA]
    rfl

/-- Settles O34: each moves the byte as a shift does, and then loads `A` with its combination of `A` and the byte
written (`modifies_then`). -/
theorem shiftThenLogic : Obligations.ShiftThenLogic := by
  refine ⟨hasForms_of_entries (by decide) (by decide), hasForms_of_entries (by decide) (by decide),
    hasForms_of_entries (by decide) (by decide), fun i s hw => ⟨fun hi => ?_, fun hi => ?_, fun hi => ?_⟩⟩
  · exact modifies_then (r := fun _ => asl) (carry := fun _ => bit7) (k := fun a v => withA (a ||| v))
      (congrArg effect hi) (by rw [hi]; rfl) (by rw [hi]; decide) hw shiftLeft_eq_asl orA_eq_withA
      (fun _ _ _ _ => rfl) fun _ _ _ => ⟨rfl, rfl, rfl⟩
  · exact modifies_then (carry := fun _ => bit7) (k := fun a v => withA (a &&& v))
      (congrArg effect hi) (by rw [hi]; rfl) (by rw [hi]; decide) hw rotateLeft_eq_rol andA_eq_withA
      (fun _ _ _ _ => rfl) fun _ _ _ => ⟨rfl, rfl, rfl⟩
  · exact modifies_then (r := fun _ => lsr) (carry := fun _ => bit0) (k := fun a v => withA (a ^^^ v))
      (congrArg effect hi) (by rw [hi]; rfl) (by rw [hi]; decide) hw shiftRight_eq_lsr xorA_eq_withA
      (fun _ _ _ _ => rfl) fun _ _ _ => ⟨rfl, rfl, rfl⟩

/-- Settles O35: each moves or counts the byte, and then does what ADC, CMP or SBC does with the byte written
(`modifies_then`); DCP and ISC leave the carry to the operation that follows. -/
theorem modifyThenArithmetic : Obligations.ModifyThenArithmetic := by
  refine ⟨hasForms_of_entries (by decide) (by decide), hasForms_of_entries (by decide) (by decide),
    hasForms_of_entries (by decide) (by decide), fun i s hw => ⟨fun hi => ?_, fun hi => ?_, fun hi => ?_⟩⟩
  · exact modifies_then (carry := fun _ => bit0) (k := fun _ => afterAdd)
      (congrArg effect hi) (by rw [hi]; rfl) (by rw [hi]; decide) hw rotateRight_eq_ror addToA_eq_afterAdd
      (fun _ _ _ _ => rfl) fun _ _ _ => ⟨rfl, rfl, rfl⟩
  · exact modifies_then (r := fun _ m => low (m.toNat + 255)) (carry := fun c _ => c) (k := afterCompare)
      (congrArg effect hi) (by rw [hi]; rfl) (by rw [hi]; decide) hw decrement_eq_low
      (fun v t => compare_eq_afterCompare t.A v t) (fun _ _ _ _ => rfl) fun _ _ _ => ⟨rfl, rfl, rfl⟩
  · exact modifies_then (r := fun _ m => low (m.toNat + 1)) (carry := fun c _ => c) (k := fun _ => afterSubtract)
      (congrArg effect hi) (by rw [hi]; rfl) (by rw [hi]; decide) hw increment_eq_low subtractFromA_eq_afterSubtract
      (fun _ _ _ _ => rfl) fun _ _ _ => ⟨rfl, rfl, rfl⟩

/-! ## ANC, ALR, ARR, XAA and AXS -/

/-- A read operation whose effect `g` takes registers and flags from a state that it is given: it finds in them what
stood there before its accesses. -/
theorem reads_of_effect_on_state {i : Instr} {s : State} {f : Byte → State → State}
    {g : State → Byte → State → State}
    (he : effect i.operation = .read f) (hc : opClass i.operation i.operand.mode = .read)
    (hf : ∀ m t, f m t = g t m t) (hg : ∀ n u m t, charge n .normal (g u m t) = g u m (charge n .normal t))
    (haccessed : ∀ acc m t, g (accessed acc s) m t = g s m t) : Reads i s (g s) := by
  obtain ⟨v, hv, hbody⟩ := body_read_eq (operand_of_opClass_read hc) s
  have hk : i.operation ≠ .kil := operation_ne_kil_of_opClass (by rw [hc]; decide)
  refine ⟨v, hv, ?_⟩
  rw [exec_eq_charge_cost hk (by simp [he]), he, hbody, hf, hg, haccessed, charge_accessed]

/-- ANC (R289), with `A` as in `s`: `C` is bit 7 of the new `A`, and so is `N`. -/
def afterAnc (s : State) (m : Byte) (t : State) : State :=
  { withA (s.A &&& m) t with C := bit7 (s.A &&& m) }

/-- ALR (R290), with `A` as in `s`: `C` is the bit moved out. -/
def afterAlr (s : State) (m : Byte) (t : State) : State :=
  withA (lsr (s.A &&& m)) { t with C := bit0 (s.A &&& m) }

/-- ARR (R291), with `A` and `C` as in `s`: `C` and `V` come from bits 6 and 5 of the result. -/
def afterArr (s : State) (m : Byte) (t : State) : State :=
  { withA (ror s.C (s.A &&& m)) t with
    C := decide ((ror s.C (s.A &&& m)).toNat / 64 % 2 = 1)
    V := decide ((ror s.C (s.A &&& m)).toNat / 64 % 2 ≠ (ror s.C (s.A &&& m)).toNat / 32 % 2) }

/-- XAA (R292), with `X` as in `s`. -/
def afterXaa (s : State) (m : Byte) : State → State := withA (s.X &&& m)

/-- AXS (R293), with `A` and `X` as in `s`. -/
def afterAxs (s : State) (m : Byte) (t : State) : State :=
  { afterCompare (s.A &&& s.X) m t with X := low ((s.A &&& s.X).toNat + 256 - m.toNat) }

theorem andCopyN_eq_afterAnc (m : Byte) (s : State) : andCopyN m s = afterAnc s m s := by
  rw [andCopyN, andA_eq_withA]
  rfl

theorem andShiftRight_eq_afterAlr (m : Byte) (s : State) : andShiftRight m s = afterAlr s m s := by
  rw [andShiftRight, shiftRight_eq_lsr, updateZN_eq_withZN]
  rfl

theorem andRotateRight_eq_afterArr (m : Byte) (s : State) : andRotateRight m s = afterArr s m s := by
  have hV (r : Byte) : (r.getLsbD 6 ^^ r.getLsbD 5) = decide (r.toNat / 64 % 2 ≠ r.toNat / 32 % 2) := by
    rw [getLsbD_eq_decide, getLsbD_eq_decide, Bool.eq_iff_iff, Bool.xor_iff_ne]
    simp only [ne_eq, decide_eq_decide, decide_eq_true_eq]
    omega
  rw [andRotateRight, rotateRight_eq_ror, updateZN_eq_withZN, hV, getLsbD_eq_decide]
  rfl

theorem transferAnd_eq_afterXaa (m : Byte) (s : State) : transferAnd m s = afterXaa s m s :=
  loadA_eq_withA (s.X &&& m) s

theorem subtractIntoX_eq_afterAxs (m : Byte) (s : State) : subtractIntoX m s = afterAxs s m s := by
  have hX (reg : Byte) : BitVec.ofNat 8 (difference9 reg m) = low (reg.toNat + 256 - m.toNat) := by
    have := m.isLt
    unfold low difference9
    bv_omega
  rw [subtractIntoX, compare_eq_afterCompare, hX]
  rfl

/-- Settles O36: each is a read operation that takes `A`, `X` and `C` as it finds them, and its effect is that of the
statement. -/
theorem immediateCombinations : Obligations.ImmediateCombinations := by
  refine ⟨hasForms_of_entries (by decide) (by decide), hasForms_of_entries (by decide) (by decide),
    hasForms_of_entries (by decide) (by decide), hasForms_of_entries (by decide) (by decide),
    hasForms_of_entries (by decide) (by decide),
    fun i s => ⟨fun hi => ?anc, fun hi => ?alr, fun hi => ?arr, fun hi => ?xaa, fun hi => ?axs⟩⟩
  case anc =>
    exact reads_of_effect_on_state (congrArg effect hi) (by rw [hi]; rfl) andCopyN_eq_afterAnc (fun _ _ _ _ => rfl)
      fun _ _ _ => by simp only [afterAnc, accessed_A]
  case alr =>
    exact reads_of_effect_on_state (congrArg effect hi) (by rw [hi]; rfl) andShiftRight_eq_afterAlr
      (fun _ _ _ _ => rfl) fun _ _ _ => by simp only [afterAlr, accessed_A]
  case arr =>
    exact reads_of_effect_on_state (congrArg effect hi) (by rw [hi]; rfl) andRotateRight_eq_afterArr
      (fun _ _ _ _ => rfl) fun _ _ _ => by simp only [afterArr, accessed_A, accessed_C]
  case xaa =>
    exact reads_of_effect_on_state (congrArg effect hi) (by rw [hi]; rfl) transferAnd_eq_afterXaa
      (fun _ _ _ _ => rfl) fun _ _ _ => by simp only [afterXaa, accessed_X]
  case axs =>
    exact reads_of_effect_on_state (congrArg effect hi) (by rw [hi]; rfl) subtractIntoX_eq_afterAxs
      (fun _ _ _ _ => rfl) fun _ _ _ => by simp only [afterAxs, accessed_A, accessed_X]

end Sys2Proof.Proofs
end

section
/-! PROOFS. Decimal sums and differences of valid BCD numbers (R184, R186). -/

namespace Sys2Proof.Proofs

open Sys2Proof.Machine Sys2Proof.Claims

/-- The BCD form of a number below 100 has its two decimal digits as its nibbles. -/
theorem nibbles_low_bcd (x : Fin 100) :
    (low (x.val / 10 * 16 + x.val % 10)).toNat / 16 = x.val / 10 ∧
      (low (x.val / 10 * 16 + x.val % 10)).toNat % 16 = x.val % 10 := by
  have := x.isLt
  rw [low, BitVec.toNat_ofNat]
  omega

/-- A sum of two digits and a carry, corrected by 6 above 9, is a digit and a carry (R184). -/
theorem digit_of_corrected_sum (n : Nat) (hn : n < 20) :
    (if 9 < n then 1 else 0) = n / 10 ∧ (n + 6 * (n / 10)) % 16 = n % 10 := by
  constructor
  · split <;> omega
  · omega

/-- A difference of two digits and a borrow, corrected by 6 below 0, is a digit and a borrow (R186). -/
theorem digit_of_corrected_difference (n : Int) (hlow : -10 ≤ n) (hhigh : n < 10) :
    (if n < 0 then 1 else 0) = -(n / 10) ∧ (n - 6 * -(n / 10)) % 16 = n % 10 ∧
      (n - if n < 0 then 6 else 0) % 16 = n % 10 := by
  refine ⟨?_, ?_, ?_⟩
  · split <;> omega
  · omega
  · split <;> omega

/-- Settles O19: the nibbles are decimal digits (`nibbles_low_bcd`), so each corrected nibble sum is a digit of the sum
(`digit_of_corrected_sum`). -/
theorem decimalAddition : Obligations.DecimalAddition := by
  refine ⟨addDecimal_eq_decimalSum, fun x y c => ?_⟩
  have := x.isLt
  have := y.isLt
  have := c.toNat_lt
  obtain ⟨hxhi, hxlo⟩ := nibbles_low_bcd x
  obtain ⟨hyhi, hylo⟩ := nibbles_low_bcd y
  obtain ⟨lo, hlo⟩ : ∃ lo, lo = x.val % 10 + y.val % 10 + c.toNat := ⟨_, rfl⟩
  obtain ⟨hi, hhi⟩ : ∃ hi, hi = x.val / 10 + y.val / 10 + lo / 10 := ⟨_, rfl⟩
  obtain ⟨hcarry, hones⟩ := digit_of_corrected_sum lo (by omega)
  obtain ⟨hcarry', htens⟩ := digit_of_corrected_sum hi (by omega)
  have hsumOnes : lo % 10 = (x.val + y.val + c.toNat) % 10 := by omega
  have hsumTens : hi % 10 = (x.val + y.val + c.toNat) % 100 / 10 := by omega
  have hhundred : decide (9 < hi) = decide (100 ≤ x.val + y.val + c.toNat) := decide_eq_decide.mpr (by omega)
  rw [addDecimal_eq_decimalSum]
  simp only [decimalSum, hxhi, hxlo, hyhi, hylo, ← hlo, hcarry, hones, ← hhi, hcarry', htens, hsumOnes, hsumTens,
    hhundred]

/-- The borrow of the high nibble is that of the whole difference (R186). -/
theorem addBinary_xor_FF_cb_eq_nibbles (a v : Byte) (c : Bool) :
    (addBinary a (v ^^^ 0xFF) c).cb =
      decide (0 ≤ (a.toNat / 16 : Nat) - (v.toNat / 16 : Nat) -
        (if (a.toNat % 16 : Nat) - (v.toNat % 16 : Nat) - (1 - (c.toNat : Int)) < 0 then 1 else 0 : Int)) := by
  have := c.toNat_lt
  refine (addBinary_xor_FF_cb a v c).trans (decide_eq_decide.mpr ?_)
  split <;> omega

/-- Settles O20: the nibbles are decimal digits (`nibbles_low_bcd`), so each corrected nibble difference is a digit of
the difference (`digit_of_corrected_difference`). -/
theorem decimalSubtraction : Obligations.DecimalSubtraction := by
  refine ⟨fun a v c => ⟨subDecimal_eq_decimalDifference a v c, addBinary_xor_FF_cb_eq_nibbles a v c⟩,
    fun x y c => ?_⟩
  have := x.isLt
  have := y.isLt
  have := c.toNat_lt
  obtain ⟨hxhi, hxlo⟩ := nibbles_low_bcd x
  obtain ⟨hyhi, hylo⟩ := nibbles_low_bcd y
  obtain ⟨lo, hlo⟩ : ∃ lo : Int, lo = (x.val % 10 : Nat) - (y.val % 10 : Nat) - (1 - (c.toNat : Int)) := ⟨_, rfl⟩
  obtain ⟨hi, hhi⟩ : ∃ hi : Int, hi = (x.val / 10 : Nat) - (y.val / 10 : Nat) - -(lo / 10) := ⟨_, rfl⟩
  obtain ⟨hborrow, hones, -⟩ := digit_of_corrected_difference lo (by omega) (by omega)
  obtain ⟨-, -, htens⟩ := digit_of_corrected_difference hi (by omega) (by omega)
  rw [subDecimal_eq_decimalDifference]
  simp only [decimalDifference, hxhi, hxlo, hyhi, hylo, ← hlo, hborrow, hones, ← hhi, htens]
  congr 1
  omega

end Sys2Proof.Proofs
end

section
/-! PROOFS. The page-cross eligible opcodes (R99, R329), and the assembler's choice among duplicate opcodes (R104). -/

namespace Sys2Proof.Proofs

open Sys2Proof.Machine Sys2Proof.Claims

/-! ## The page-cross eligible opcodes -/

/-- The opcodes that R99 lists. -/
abbrev eligibleOpcodes : List Byte :=
  [0x11, 0x19, 0x1D, 0x31, 0x39, 0x3D, 0x51, 0x59, 0x5D, 0x71, 0x79, 0x7D, 0xB1, 0xB9, 0xBD,
    0xD1, 0xD9, 0xDD, 0xF1, 0xF9, 0xFD, 0xBC, 0xBE, 0xB3, 0xBF, 0x1C, 0x3C, 0x5C, 0x7C, 0xDC, 0xFC]

theorem eligible_iff_mem (op : Byte) : (dispatchEntry op).eligible = true ↔ op ∈ eligibleOpcodes :=
  forall_byte (P := fun op => (dispatchEntry op).eligible = true ↔ op ∈ eligibleOpcodes) (by decide) op

theorem eligible_iff_opClass_read (op : Byte) : (dispatchEntry op).eligible = true ↔
    opClass (dispatchEntry op).operation (dispatchEntry op).mode = .read ∧
      ((dispatchEntry op).mode = some .abx ∨ (dispatchEntry op).mode = some .aby ∨
        (dispatchEntry op).mode = some .izy) :=
  forall_byte (P := fun op => (dispatchEntry op).eligible = true ↔
    opClass (dispatchEntry op).operation (dispatchEntry op).mode = .read ∧
      ((dispatchEntry op).mode = some .abx ∨ (dispatchEntry op).mode = some .aby ∨
        (dispatchEntry op).mode = some .izy)) (by decide) op

theorem allOpcodes_length : allOpcodes.length = 256 := by
  rw [allOpcodes, List.length_map, List.length_range]

theorem mem_allOpcodes (op : Byte) : op ∈ allOpcodes :=
  List.mem_map.mpr ⟨op.toNat, List.mem_range.mpr op.isLt, BitVec.ofNat_toNat 8 op⟩

/-- The opcodes stand in order. -/
theorem pairwise_allOpcodes : allOpcodes.Pairwise fun a b => a.toNat < b.toNat := by
  refine List.pairwise_map.mpr (List.pairwise_lt_range.imp_of_mem fun ha hb hlt => ?_)
  have := List.mem_range.mp ha
  have := List.mem_range.mp hb
  simp only [BitVec.toNat_ofNat]
  omega

theorem nodup_allOpcodes : allOpcodes.Nodup := pairwise_allOpcodes.imp fun hlt heq => by simp [heq] at hlt

/-- The list of the undocumented opcodes holds no opcode twice. -/
theorem perm_undocumentedOpcodes : (allOpcodes.filter fun op => !documented op).Perm undocumentedOpcodes := by
  refine (List.perm_ext_iff_of_nodup (nodup_allOpcodes.filter _) (by decide)).mpr fun op => ?_
  simp [mem_allOpcodes, documented]

/-- Settles O5: the table's entries one by one, and the counts from the list of the undocumented opcodes
(`perm_undocumentedOpcodes`). -/
theorem pageCrossEligibilitySet : Obligations.PageCrossEligibilitySet := by
  have hundocumented : (allOpcodes.filter fun op => !documented op).length = 105 := perm_undocumentedOpcodes.length_eq
  have hsum := List.length_eq_length_filter_add (l := allOpcodes) documented
  rw [allOpcodes_length, hundocumented] at hsum
  have hdocumented : (allOpcodes.filter documented).length = 151 := by omega
  have hexecuted := (perm_undocumentedOpcodes.filter fun op => (dispatchEntry op).operation != .kil).length_eq
  rw [List.filter_filter] at hexecuted
  have hcomm : (allOpcodes.filter fun op => !documented op && (dispatchEntry op).operation != .kil) =
      allOpcodes.filter fun op => (dispatchEntry op).operation != .kil && !documented op := by
    simp only [Bool.and_comm]
  exact ⟨eligible_iff_mem, eligible_iff_opClass_read, operation_eq_kil_iff, hdocumented,
    (congrArg List.length hcomm).trans (hexecuted.trans (by rfl)), allOpcodes_length⟩

/-! ## Duplicate opcodes -/

/-- Where the documented opcodes of an operation begin in the opcode matrix of R97; an addressing mode adds
`opcodeOffset`. -/
def opcodeBase : Operation → Nat
  | .brk => 0x00 | .jsr => 0x14 | .rti => 0x40 | .rts => 0x60
  | .bit => 0x20 | .jmp => 0x40 | .sty => 0x80 | .ldy => 0xA0 | .cpy => 0xC0 | .cpx => 0xE0
  | .ora => 0x01 | .and => 0x21 | .eor => 0x41 | .adc => 0x61
  | .sta => 0x81 | .lda => 0xA1 | .cmp => 0xC1 | .sbc => 0xE1
  | .asl => 0x02 | .rol => 0x22 | .lsr => 0x42 | .ror => 0x62
  | .stx => 0x82 | .ldx => 0xA2 | .dec => 0xC2 | .inc => 0xE2
  | .php => 0x08 | .plp => 0x28 | .pha => 0x48 | .pla => 0x68
  | .dey => 0x88 | .tay => 0xA8 | .iny => 0xC8 | .inx => 0xE8
  | .bpl => 0x10 | .bmi => 0x30 | .bvc => 0x50 | .bvs => 0x70
  | .bcc => 0x90 | .bcs => 0xB0 | .bne => 0xD0 | .beq => 0xF0
  | .clc => 0x18 | .sec => 0x38 | .cli => 0x58 | .sei => 0x78
  | .tya => 0x98 | .clv => 0xB8 | .cld => 0xD8 | .sed => 0xF8
  | .txa => 0x8A | .txs => 0x9A | .tax => 0xAA | .tsx => 0xBA | .dex => 0xCA | .nop => 0xEA
  | _ => 0x00

/-- What an addressing mode adds to the base of an operation in the opcode matrix of R97. -/
def opcodeOffset : Operation → Mode → Nat
  | .ldx, .aby => 0x1C
  | .ldx, .imm | .ldy, .imm | .cpx, .imm | .cpy, .imm => 0x00
  | _, .imp | _, .rel | _, .izx => 0x00
  | _, .zp => 0x04
  | _, .imm | _, .acc => 0x08
  | _, .abs => 0x0C
  | _, .izy => 0x10
  | _, .zpx | _, .zpy => 0x14
  | _, .aby => 0x18
  | _, .abx => 0x1C
  | _, .ind => 0x2C

/-- The documented opcode of an operation with an addressing mode, where there is one. -/
def documentedOpcode (o : Operation) (m : Option Mode) : Byte :=
  BitVec.ofNat 8 (opcodeBase o + (m.map (opcodeOffset o)).getD 0)

/-- A documented opcode is the only one of its operation and mode. -/
theorem documentedOpcode_of_documented (op : Byte) :
    documentedOpcode (dispatchEntry op).operation (dispatchEntry op).mode = op ∨ documented op = false :=
  forall_byte (P := fun op =>
    documentedOpcode (dispatchEntry op).operation (dispatchEntry op).mode = op ∨ documented op = false) (by decide) op

theorem mem_opcodesFor {o : Operation} {m : Option Mode} {op : Byte} :
    op ∈ opcodesFor o m ↔ (dispatchEntry op).operation = o ∧ (dispatchEntry op).mode = m := by
  simp [opcodesFor, mem_allOpcodes]

theorem opcode_mem_opcodesFor (i : Instr) : i.opcode ∈ opcodesFor i.operation i.operand.mode := by
  obtain ⟨op, b1, b2, rfl⟩ := exists_instrOf i
  rw [mem_opcodesFor, opcode_instrOf, instrOf_operation, mode_instrOf]
  exact ⟨rfl, rfl⟩

/-- The assembler emits the opcode of a documented instruction. -/
theorem assemblerOpcode_of_documented {i : Instr} (hd : documented i.opcode = true) :
    assemblerOpcode i.operation i.operand.mode = some i.opcode := by
  have hunique {op : Byte} (hmem : op ∈ opcodesFor i.operation i.operand.mode) (hd : documented op = true) :
      op = documentedOpcode i.operation i.operand.mode := by
    obtain ⟨ho, hm⟩ := mem_opcodesFor.mp hmem
    rw [← ho, ← hm]
    exact ((documentedOpcode_of_documented op).resolve_right (by simp [hd])).symm
  have hsome : ((opcodesFor i.operation i.operand.mode).find? documented).isSome :=
    List.find?_isSome.mpr ⟨i.opcode, opcode_mem_opcodesFor i, hd⟩
  obtain ⟨op, hop⟩ := Option.isSome_iff_exists.mp hsome
  have hmem := List.mem_of_find?_eq_some hop
  rw [assemblerOpcode, hop, hunique hmem (List.find?_some hop), ← hunique (opcode_mem_opcodesFor i) hd]

/-- Without a documented opcode the assembler emits the lowest opcode of the pair. -/
theorem assemblerOpcode_of_undocumented (i : Instr)
    (hu : ∀ o ∈ opcodesFor i.operation i.operand.mode, documented o = false) :
    ∃ op ∈ opcodesFor i.operation i.operand.mode, assemblerOpcode i.operation i.operand.mode = some op ∧
      ∀ o ∈ opcodesFor i.operation i.operand.mode, op.toNat ≤ o.toNat := by
  have hfind : (opcodesFor i.operation i.operand.mode).find? documented = none :=
    List.find?_eq_none.mpr fun o ho => by simp [hu o ho]
  have hmem := opcode_mem_opcodesFor i
  have hsorted : (opcodesFor i.operation i.operand.mode).Pairwise fun a b => a.toNat < b.toNat :=
    pairwise_allOpcodes.filter _
  rw [assemblerOpcode, hfind]
  cases hl : opcodesFor i.operation i.operand.mode with
  | nil => simp [hl] at hmem
  | cons op ops =>
    rw [hl] at hsorted
    refine ⟨op, List.mem_cons_self, rfl, fun o ho => ?_⟩
    obtain rfl | ho := List.mem_cons.mp ho
    · exact le_rfl
    · exact (List.rel_of_pairwise_cons hsorted ho).le

/-- An opcode with the operation and the mode of an instruction takes its operand. -/
theorem exists_asm_eq {i : Instr} {op : Byte} (hop : op ∈ opcodesFor i.operation i.operand.mode) :
    ∃ j : Instr, j.opcode = op ∧ j.asm = i.asm := by
  obtain ⟨ho, hm⟩ := mem_opcodesFor.mp hop
  obtain ⟨b1, b2, hoperand⟩ := exists_operandOf i.operand
  refine ⟨instrOf op b1 b2, opcode_instrOf op b1 b2, ?_⟩
  rw [Instr.asm, instrOf_operation, operand_instrOf, ho, hm, ← hoperand, Instr.asm]

theorem assemble_asm (i : Instr) :
    assemble i.asm = (assemblerOpcode i.operation i.operand.mode).map fun op => op :: i.operand.bytes := rfl

/-- Settles O6: duplicates run the same meaning; the assembler's opcode is `assemblerOpcode_of_documented` or
`assemblerOpcode_of_undocumented`. -/
theorem duplicateEncodings : Obligations.DuplicateEncodings := by
  refine ⟨fun v s => ⟨rfl, rfl⟩, fun s => ⟨rfl, rfl, rfl, rfl, rfl, rfl⟩, fun i hd => ?_, fun i hu => ?_⟩
  · rw [assemble_asm, assemblerOpcode_of_documented hd]
    rfl
  · obtain ⟨op, hmem, hasm, hlowest⟩ := assemblerOpcode_of_undocumented i hu
    obtain ⟨j, rfl, hj⟩ := exists_asm_eq hmem
    have hoperand : j.operand = i.operand := congrArg AsmInstr.operand hj
    refine ⟨j, ?_, hj, hlowest⟩
    rw [assemble_asm, hasm, ← hoperand]
    rfl

end Sys2Proof.Proofs
end

section
/-! PROOFS. Reset, BRK and RTI (R350, R353, R354, R360), and the return from an interrupt. -/

namespace Sys2Proof.Proofs

open Sys2Proof.Machine Sys2Proof.Claims

/-! ## Reset -/

theorem readAfter_setBus (l : List BusAccess) (s : State) (acc : List BusAccess) (a : Addr) :
    readAfter { s with bus := l } acc a = readAfter s acc a := by
  rw [readAfter, after_setBus]
  rfl

/-- Settles O44: Reset is the two reads of its vector (`read16_eq_accessed`) and the values of R350. -/
theorem resetCommandSetsState : Obligations.ResetCommandSetsState := by
  refine fun s => ⟨?_, rfl⟩
  have hlatch : (s.nmiEdge && !s.cfg.resetClearsNmi) = if s.cfg.resetClearsNmi then false else s.nmiEdge := by
    cases s.cfg.resetClearsNmi <;> simp
  have hread := read16_eq_accessed resetVector { s with bus := [] }
  rw [readAfter_setBus] at hread
  rw [← hlatch, resetCommand, hread]
  simp only [accessed, after_setBus]
  rw [after_frame]
  rfl

/-! ## BRK -/

theorem after_setPC (pc : Addr) (s : State) (acc : List BusAccess) :
    ({ s with PC := pc } : State).after acc = { s.after acc with PC := pc } :=
  after_comm (f := fun s => { s with PC := pc }) (fun _ x => by cases x <;> rfl) s acc

/-- The three pushes of BRK: the address after the signature byte, high byte first, and the status byte with bits 5
and 4 set (R353). -/
def breakPushes (s : State) : List (Addr × Byte) := interruptPushes (statusByte true s) { s with PC := s.PC + 1 }

/-- The state that a BRK leaves: its pushes, the reads of its vector, its 7 cycles (R353). -/
def afterBreak (s : State) : State :=
  { ended 7 (busWrites (breakPushes s) ++ [.read 0xFFFE, .read 0xFFFF]) s with
    S := s.S - 3, I := true
    PC := word (readAfter s (busWrites (breakPushes s) ++ [.read 0xFFFE]) 0xFFFF)
      (readAfter s (busWrites (breakPushes s)) 0xFFFE) }

theorem charge_breakIn (s : State) : charge 7 .normal (breakIn s) = afterBreak s := by
  have hnext : brkVector + 1 = 0xFFFF := rfl
  rw [breakIn, statusWithBreak_eq_statusByte, enterInterrupt_eq_accessed, ← breakPushes, hnext]
  simp only [afterBreak, ← charge_accessed, accessed, readAfter, after_setPC]
  rfl

theorem exec_brk (s : State) : exec .brk s = .next (afterBreak s) := congrArg Host.Outcome.next (charge_breakIn s)

theorem stores_afterBreak {s : State} (hw : s.wellFormed = true) : Stores s (afterBreak s) (breakPushes s) := by
  have hstores : Stores s (afterBreak s) (writesOf (busWrites (breakPushes s) ++ [.read 0xFFFE, .read 0xFFFF])) :=
    stores_of_accessed hw _ rfl rfl (after_cfg s _)
  rwa [writesOf_busWrites_append] at hstores

/-- The vector of BRK lies outside the stack page. -/
theorem afterBreak_PC_default {s : State} (hp : s.cfg.provider = .default) :
    (afterBreak s).PC = word (s.peek 0xFFFF) (s.peek 0xFFFE) := by
  rw [← charge_breakIn]
  exact enterInterrupt_PC_default (s := { s with PC := s.PC + 1 }) hp (vector := brkVector) (by decide) (by decide)
    (statusWithBreak s)

/-- Settles O39: BRK is its three pushes and the reads of its vector (`exec_brk`, `stores_afterBreak`). -/
theorem breakEntersHandler : Obligations.BreakEntersHandler := by
  refine ⟨hasForms_of_entries (by decide) (by decide), fun s ret hw hret => ?_⟩
  have hpushed : ret = (s.PC + 1).toNat := by bv_omega
  rw [hpushed]
  exact ⟨afterBreak s, breakPushes s, rfl, exec_brk s, rfl, stores_afterBreak hw, afterBreak_PC_default⟩

/-! ## RTI -/

/-- The state that a RTI leaves: the flags from the first byte pulled, `PC` from the next two, its 6 cycles (R360). -/
theorem exec_rti (s : State) :
    exec .rti s = .next (withStatus (s.peek (stackAddr (s.S + 1)))
      { ended 6 [.read (stackAddr (s.S + 1)), .read (stackAddr (s.S + 2)), .read (stackAddr (s.S + 3))] s with
        S := s.S + 3
        PC := word (readAfter s [.read (stackAddr (s.S + 1)), .read (stackAddr (s.S + 2))] (stackAddr (s.S + 3)))
          (readAfter s [.read (stackAddr (s.S + 1))] (stackAddr (s.S + 2))) }) := by
  have hexec : exec .rti s = complete 6 (returnFromInterrupt s) := rfl
  have htwo : s.S + 2 = s.S + 1 + 1 := by bv_omega
  have hthree : s.S + 3 = s.S + 1 + 1 + 1 := by bv_omega
  rw [hexec, returnFromInterrupt, unpackStatus_eq_withStatus, complete, htwo, hthree, ← charge_accessed,
    accessed_eq_foldl]
  rfl

/-- Settles O40: RTI is three pulls (`exec_rti`). -/
theorem returnFromInterrupt : Obligations.ReturnFromInterrupt := by
  refine ⟨hasForms_of_entries (by decide) (by decide), ?_⟩
  rintro s _ _ _ rfl rfl rfl
  exact exec_rti s

/-! ## The return from an interrupt -/

/-- The flags from a status byte that was pushed, bit 4 from `b` (R37, R38). -/
theorem withStatus_statusByte (b : Bool) (s t : State) :
    withStatus (statusByte b s) t =
      { t with C := s.C, Z := s.Z, I := s.I, D := s.D, B := b, V := s.V, N := s.N } := by
  have hpacked : statusByte b s = packStatus { s with B := b } := (packStatus_eq_statusByte { s with B := b }).symm
  rw [hpacked, ← unpackStatus_eq_withStatus]
  simp only [unpackStatus, getLsbD_packStatus]
  simp

/-- After writes to three different backed addresses each reads as the byte written to it. -/
theorem byteAfter_three_writes {s : State} {a b c : Addr} (ha : backed s.cfg a = true) (hb : backed s.cfg b = true)
    (hc : backed s.cfg c = true) (hba : b ≠ a) (hca : c ≠ a) (hcb : c ≠ b) (u v w : Byte) :
    byteAfter s [(a, u), (b, v), (c, w)] a = u ∧ byteAfter s [(a, u), (b, v), (c, w)] b = v ∧
      byteAfter s [(a, u), (b, v), (c, w)] c = w := by
  simp [byteAfter, ha, hb, hc, hba, hca, hcb]

/-- After three pushes to a backed stack page each slot holds its byte, at the wrap of the page too. -/
theorem peek_slots_of_stores {s t : State} (hs : StackBacked s) {high low status : Byte}
    (ht : Stores s t [(stackAddr s.S, high), (stackAddr (s.S - 1), low), (stackAddr (s.S - 2), status)]) :
    t.peek (stackAddr s.S) = high ∧ t.peek (stackAddr (s.S - 1)) = low ∧ t.peek (stackAddr (s.S - 2)) = status := by
  obtain ⟨hdefault, hbacked⟩ := hs
  have hne {p q : Byte} (h : p ≠ q) : stackAddr p ≠ stackAddr q := fun heq => h (stackAddr_injective heq)
  rw [ht hdefault, ht hdefault, ht hdefault]
  exact byteAfter_three_writes (hbacked _) (hbacked _) (hbacked _) (hne (by bv_omega)) (hne (by bv_omega))
    (hne (by bv_omega)) high low status

/-- RTI on three slots that hold the word `pc` and the status byte of `s`, with `S` below them: the context of `s`,
whatever else has changed.  With the default provider its reads do not change what later ones find (R64). -/
theorem exec_rti_restores {s u : State} (hp : u.cfg.provider = .default) (hS : u.S = s.S - 3) {pc : Addr} {b : Bool}
    (hhigh : u.peek (stackAddr s.S) = low (pc.toNat / 256)) (hlow : u.peek (stackAddr (s.S - 1)) = low pc.toNat)
    (hstatus : u.peek (stackAddr (s.S - 2)) = statusByte b s) :
    ∃ v, exec .rti u = .next v ∧ SameContext s v ∧ v.PC = pc ∧ v.B = b := by
  have h1 : u.S + 1 = s.S - 2 := by bv_omega
  have h2 : u.S + 2 = s.S - 1 := by bv_omega
  have h3 : u.S + 3 = s.S := by bv_omega
  have hword : word (low (pc.toNat / 256)) (low pc.toNat) = pc := wordOf_high_low pc
  have hread (a b : Addr) : readAfter u [.read a] b = u.peek b := by
    rw [readAfter, after_cons, access_read, afterRead_default hp, after_nil]
  have hread2 (a b c : Addr) : readAfter u [.read a, .read b] c = u.peek c := by
    rw [readAfter, after_cons, access_read, afterRead_default hp]
    exact hread b c
  have hexec := exec_rti u
  rw [hread, hread2, h1, h2, h3, hhigh, hlow, hstatus, hword, withStatus_statusByte] at hexec
  exact ⟨_, hexec, ⟨rfl, rfl, rfl, rfl, rfl, rfl, rfl⟩, rfl, rfl⟩

/-- Settles O42: both entries leave `PC` and the status byte in the three slots above the new `S`
(`peek_slots_of_stores`), where RTI finds them (`exec_rti_restores`). -/
theorem interruptReturnRestoresContext : Obligations.InterruptReturnRestoresContext := by
  intro s t u hw hs hp hS hhigh hlow hstatus
  refine ⟨fun hn hstep => ?_, fun hbrk => ?_⟩
  · obtain ⟨t', ws, rfl, hstep', ht', hstores, -⟩ := nmiServicePreemptsTheStep s hw hn
    obtain rfl : t' = t := Host.Outcome.next.inj (hstep'.symm.trans hstep)
    obtain ⟨hpushedHigh, hpushedLow, hpushedStatus⟩ := peek_slots_of_stores hs hstores
    have hleft : u.S = s.S - 3 := hS.trans (congrArg State.S ht' :)
    exact exec_rti_restores hp hleft (hhigh.trans hpushedHigh) (hlow.trans hpushedLow) (hstatus.trans hpushedStatus)
  · obtain rfl : afterBreak s = t := Host.Outcome.next.inj ((exec_brk s).symm.trans hbrk)
    obtain ⟨hpushedHigh, hpushedLow, hpushedStatus⟩ := peek_slots_of_stores hs (stores_afterBreak hw)
    exact exec_rti_restores hp hS (hhigh.trans hpushedHigh) (hlow.trans hpushedLow) (hstatus.trans hpushedStatus)

end Sys2Proof.Proofs
end

section
/-! PROOFS. The instruction that a step fetches, as bus accesses (R320 to R325), and the latch of the NMI (R356 to
R359). -/

namespace Sys2Proof.Proofs

open Sys2Proof.Machine Sys2Proof.Claims

/-! ## Completion -/

theorem exists_exec_next (i : Instr) (s : State) : ∃ t, exec i s = .next t := ⟨_, exec_eq_charge_body i s⟩

theorem safeRun (k : Nat) (s : State) : SafeRun k s := by
  induction k generalizing s with
  | zero => exact ⟨s, rfl⟩
  | succ k ih =>
    obtain ⟨t, ht⟩ := exists_step_next s
    rw [SafeRun, run_succ_of_step ht]
    exact ih t

/-- Settles O47: every instruction is an effect and a charge, and a run goes on from the next state. -/
theorem everyStepAnswersANextState : Obligations.EveryStepAnswersANextState :=
  ⟨exists_exec_next, exists_step_next, safeRun⟩

/-! ## The fetch -/

/-- The instruction in the three bytes at `PC`. -/
def nextInstr (s : State) : Instr :=
  instrOf (s.peek s.PC) (readAfter s [.read s.PC] (s.PC + 1))
    (readAfter s [.read s.PC, .read (s.PC + 1)] (s.PC + 2))

/-- The three bytes at `PC` decode to it, whatever they are. -/
theorem decode_nextBytes (s : State) : ∃ rest, decode (nextBytes s) = .instr (nextInstr s) rest := by
  have hdecode (op b1 b2 : Byte) :
      decode [op, b1, b2] = .instr (instrOf op b1 b2) ([b1, b2].drop (operandCount op)) := by
    have := decode_cons_take op b1 b2 ([b1, b2].drop (operandCount op))
    rwa [List.take_append_drop] at this
  exact ⟨_, hdecode _ _ _⟩

/-- `s` in the course of a fetch: the opcode has been read, and the reads `acc` have been made up to `pc`. -/
def fetching (acc : List BusAccess) (pc : Addr) (s : State) : State :=
  { accessed acc { s with bus := [] } with PC := pc, opcode := s.peek s.PC }

theorem fetchOpcode_eq_fetching (s : State) :
    fetchOpcode { s with bus := [] } = (s.peek s.PC, fetching [.read s.PC] (s.PC + 1) s) := rfl

theorem fetch8_fetching (acc : List BusAccess) (pc : Addr) (s : State) :
    fetch8 (fetching acc pc s) = (readAfter s acc pc, fetching (acc ++ [.read pc]) (pc + 1) s) := by
  simp only [fetch8, fetching, accessed, memRead_eq, after_setBus, after_append]
  rfl

theorem fetched_eq_fetching (i : Instr) (s : State) :
    fetched i s = fetching ((List.range i.length).map fun k => .read (s.PC + BitVec.ofNat 16 k))
      (s.PC + BitVec.ofNat 16 i.length) s := rfl

/-- The fetch reads the opcode, then as many operand bytes as it asks for (R75, R322, R325); a byte that it does not
read makes no difference to the instruction. -/
theorem fetchInstr_eq_fetched (s : State) :
    fetchInstr { s with bus := [] } = (nextInstr s, fetched (nextInstr s) s) := by
  have hlen : (nextInstr s).length = 1 + operandCount (s.peek s.PC) := length_instrOf _ _ _
  have htwo : s.PC + 1 + 1 = s.PC + 2 := by bv_omega
  have hthree : s.PC + 2 + 1 = s.PC + 3 := by bv_omega
  have hlt := operandCount_lt_three (s.peek s.PC)
  have hcell (b1 b2 : Byte) (h : [b1, b2].take (operandCount (s.peek s.PC)) =
      [readAfter s [.read s.PC] (s.PC + 1), readAfter s [.read s.PC, .read (s.PC + 1)] (s.PC + 2)].take
        (operandCount (s.peek s.PC))) : instrOf (s.peek s.PC) b1 b2 = nextInstr s := instrOf_congr h
  simp only [fetchInstr, fetchOpcode_eq_fetching, fetch8_fetching, fetched_eq_fetching, hlen, htwo, hthree]
  rcases hn : operandCount (s.peek s.PC) with _ | _ | _ | n
  · simpa using hcell 0 0 (by rw [hn]; rfl)
  · simpa [List.range_succ] using hcell (readAfter s [.read s.PC] (s.PC + 1)) 0 (by rw [hn]; rfl)
  · simpa [List.range_succ] using hcell _ _ rfl
  · omega

/-- With no NMI pending a step runs the instruction in the three bytes at `PC`. -/
theorem step_eq_exec_nextInstr {s : State} (hn : s.nmiEdge = false) :
    step s = exec (nextInstr s) (fetched (nextInstr s) s) := by
  rw [step_of_no_nmi hn, fetchInstr_eq_fetched]

/-- Settles O46: the bytes decode to the instruction that the fetch gives (`decode_nextBytes`,
`fetchInstr_eq_fetched`). -/
theorem stepRunsDecodedInstruction : Obligations.StepRunsDecodedInstruction := by
  intro s i rest hn hdecode
  obtain ⟨rest', hnext⟩ := decode_nextBytes s
  obtain ⟨rfl, -⟩ : nextInstr s = i ∧ rest' = rest := by simpa using hnext.symm.trans hdecode
  exact step_eq_exec_nextInstr hn

/-! ## The latch -/

/-- The service of an NMI clears the latch, leaves the parameters, and charges 7 cycles (R357). -/
theorem serviceNmi_charges (s : State) :
    (serviceNmi s).nmiEdge = false ∧ (serviceNmi s).cycles = 7 ∧ (serviceNmi s).status = .nmi := by
  obtain ⟨pc, bus, mem, ps, hi⟩ :=
    enterInterrupt_frame nmiVector (statusWithoutBreak { s with nmiEdge := false }) { s with nmiEdge := false }
  simp [serviceNmi, hi]

/-- An instruction reports a halt or a normal end (R337). -/
theorem exec_status {i : Instr} {s t : State} (h : exec i s = .next t) : t.status = stepStatus i.operation := by
  rw [exec_eq_charge_body] at h
  cases h
  rfl

theorem stepStatus_ne_nmi (o : Operation) : stepStatus o ≠ .nmi := by
  rw [stepStatus]
  split <;> decide

/-- After every step the latch is clear, and the step reports an NMI exactly where one was pending (R337, R357). -/
theorem nmiEdge_status_of_step {s t : State} (h : step s = .next t) :
    t.nmiEdge = false ∧ (t.status = .nmi ↔ s.nmiEdge = true) := by
  cases hn : s.nmiEdge
  case true =>
    rw [step_of_nmi hn] at h
    cases h
    obtain ⟨hlatch, -, hstatus⟩ := serviceNmi_charges { s with bus := [] }
    exact ⟨hlatch, by simp [hstatus]⟩
  case false =>
    rw [step_of_no_nmi hn] at h
    obtain ⟨pc, ps, bus, hf⟩ := fetchInstr_frame { s with bus := [] }
    obtain ⟨-, -, hlatch, -, -⟩ := exec_frame h
    rw [hf] at hlatch
    exact ⟨hlatch.trans hn, by simp [exec_status h, stepStatus_ne_nmi]⟩

theorem stepTriggered_of_next {s t : State} (h : step s = .next t) : stepTriggered s = .next (triggerNmi t) := by
  rw [stepTriggered, h]

/-- Settles O43: each of the three steps reports an NMI exactly where the latch was set before it
(`nmiEdge_status_of_step`). -/
theorem nmiIsServicedOnce : Obligations.NmiIsServicedOnce := by
  intro s
  obtain ⟨t, ht⟩ := exists_step_next s
  obtain ⟨hlatch, hstatus⟩ := nmiEdge_status_of_step ht
  obtain ⟨u, hu⟩ := exists_step_next t
  obtain ⟨-, hstatus'⟩ := nmiEdge_status_of_step hu
  obtain ⟨w, hw⟩ := exists_step_next (triggerNmi t)
  obtain ⟨hlatch'', hstatus''⟩ := nmiEdge_status_of_step hw
  exact ⟨rfl, rfl, t, ht, hlatch, hstatus, ⟨u, hu, by simp [hstatus', hlatch]⟩, stepTriggered_of_next ht,
    w, hw, hstatus''.mpr rfl, hlatch''⟩

end Sys2Proof.Proofs
end

section
/-! PROOFS. The cost and the status of a step, and the loop of RunCycles (R331 to R337). -/

namespace Sys2Proof.Proofs

open Sys2Proof.Machine Sys2Proof.Claims

/-! ## The cost of an instruction -/

/-- The cost of the meaning of an instruction is that of R331, whatever its kind. -/
theorem effectCost_eq_instructionCost (i : Instr) (s : State) :
    (effect i.operation).cost i.opcode i.operand s = instructionCost i s := by
  have hcross (a b : Bool) : (a && b).toNat = if a = true ∧ b = true then 1 else 0 := by
    cases a <;> cases b <;> rfl
  have htable : tableCost i.opcode s + ((dispatchEntry i.opcode).eligible && operandCrosses i.operand s).toNat =
      cost i s := congrArg (baseCost i s + ·) (hcross _ _)
  cases ho : i.operand with
  | rel r =>
    obtain ⟨taken, htaken, hexec⟩ := exec_eq_branch ho s
    rw [exec_eq_charge_body, branch_next] at hexec
    have hcycles := congrArg State.cycles (Host.Outcome.next.inj hexec)
    simp only [charge_cycles, ho, ← branchExtra_eq] at hcycles
    rw [hcycles, instructionCost, ho, htaken]
    cases taken <;> rfl
  | _ =>
    rw [ho] at htable
    rw [instructionCost, ho, ← htable]
    cases effect i.operation <;> rfl

/-- The end of an instruction: its cost, charged, and its status (R327, R331, R337). -/
theorem exec_charges {i : Instr} {s t : State} (h : exec i s = .next t) :
    t.cycles = instructionCost i s ∧ t.totalCycles = s.totalCycles + t.cycles ∧
      t.status = if i.operation = .kil then .halted else .normal := by
  have hstatus := exec_status h
  rw [exec_eq_charge_body] at h
  cases h
  obtain ⟨-, -, htotal, -, -⟩ := body_frame i s
  exact ⟨effectCost_eq_instructionCost i s, by rw [charge_totalCycles, htotal, charge_cycles], hstatus⟩

/-! ## Its bounds -/

/-- An entry's base cost, with the page-cross cycle if it is eligible, is between 1 and 8, or it is a halt's. -/
def costBounded (e : Entry) : Bool :=
  match e.base with
  | .fixed n    => decide (1 ≤ n) && decide (n + e.eligible.toNat ≤ 8)
  | .killCycles => !e.eligible

theorem costBounded_dispatchEntry (op : Byte) : costBounded (dispatchEntry op) = true :=
  forall_byte (P := fun op => costBounded (dispatchEntry op) = true) (by decide) op

theorem cost_bounds (i : Instr) (s : State) : (1 ≤ cost i s ∧ cost i s ≤ 8) ∨ cost i s = s.cfg.killCycles := by
  have hbounds := costBounded_dispatchEntry i.opcode
  rw [cost, baseCost]
  generalize dispatchEntry i.opcode = e at hbounds ⊢
  obtain ⟨o, m, n | _, eligible⟩ := e
  case fixed =>
    obtain ⟨hlow, hhigh⟩ : 1 ≤ n ∧ n + eligible.toNat ≤ 8 := by simpa [costBounded] using hbounds
    have hcross : (if eligible = true ∧ operandCrosses i.operand s = true then 1 else 0) ≤ eligible.toNat := by
      split
      case isTrue h => exact (congrArg Bool.toNat h.left).ge
      case isFalse => exact Nat.zero_le _
    exact .inl ⟨Nat.le_add_right_of_le hlow, (Nat.add_le_add_left hcross n).trans hhigh⟩
  case killCycles =>
    obtain rfl : eligible = false := by simpa [costBounded] using hbounds
    exact .inr (by simp)

theorem instructionCost_bounds (i : Instr) (s : State) :
    (1 ≤ instructionCost i s ∧ instructionCost i s ≤ 8) ∨ instructionCost i s = s.cfg.killCycles := by
  rw [instructionCost]
  split
  case h_1 r _ _ =>
    have hextra : 1 ≤ branchExtra r s ∧ branchExtra r s ≤ 2 := by
      rw [branchExtra]
      split <;> decide
    exact .inl (by omega)
  case h_2 => exact .inl (by decide)
  case h_3 => exact cost_bounds i s

theorem one_le_killCycles {s : State} (hw : s.wellFormed = true) : 1 ≤ s.cfg.killCycles := by
  simp only [State.wellFormed, Config.wellFormed, Bool.and_eq_true, decide_eq_true_eq] at hw
  obtain ⟨-, -, hkill⟩ := hw
  exact hkill

/-- Settles O51: the service of an NMI charges 7 (`serviceNmi_charges`), an instruction its cost (`exec_charges`), which
is bounded by the table's entries (`instructionCost_bounds`). -/
theorem stepCostIsCharged : Obligations.StepCostIsCharged := by
  intro s
  cases hn : s.nmiEdge
  case true =>
    obtain ⟨-, htotal⟩ := serviceNmi_keeps { s with bus := [] }
    obtain ⟨-, hcycles, hstatus⟩ := serviceNmi_charges { s with bus := [] }
    refine ⟨_, step_of_nmi hn, by rw [htotal, hcycles], fun _ => ⟨hcycles, hstatus⟩, nofun, ?_, ?_⟩
    · exact .inl (by rw [hcycles]; decide)
    · exact fun _ => by rw [hcycles]; decide
  case false =>
    obtain ⟨rest, hdecode⟩ := decode_nextBytes s
    obtain ⟨t, ht⟩ := exists_step_next s
    have hexec := ht
    rw [step_eq_exec_nextInstr hn] at hexec
    obtain ⟨hcycles, htotal, hstatus⟩ := exec_charges hexec
    have hbounds := instructionCost_bounds (nextInstr s) (fetched (nextInstr s) s)
    have hcfg : (fetched (nextInstr s) s).cfg = s.cfg := after_cfg { s with bus := [] } _
    have htotal' : (fetched (nextInstr s) s).totalCycles = s.totalCycles := accessed_totalCycles _ _
    rw [hcfg, ← hcycles] at hbounds
    refine ⟨t, ht, htotal' ▸ htotal, nofun, fun _ => ⟨nextInstr s, rest, hdecode, hcycles, hstatus⟩,
      hbounds.imp_left And.right, fun hw => ?_⟩
    have := one_le_killCycles hw
    omega

/-! ## RunCycles -/

/-- Some steps, at least one, lead from `s` to `u` at a cost of `e`, which is `budget` or up to 7 more, and the steps
before the last have cost less. -/
def StepsPast (budget e : Nat) (s u : State) : Prop :=
  budget ≤ e ∧ e < budget + 8 ∧ u.totalCycles = s.totalCycles + e ∧
    ∃ k p, core.run (k + 1) s = .next u ∧ core.run k s = .next p ∧ p.totalCycles < s.totalCycles + budget

/-- The loop ends where the target is reached. -/
theorem runCyclesFrom_of_le {target elapsed : Nat} (h : target ≤ elapsed) (fuel : Nat) (s : State) :
    runCyclesFrom fuel target elapsed s = .next (elapsed, s) := by
  cases fuel with
  | zero => rfl
  | succ fuel => rw [runCyclesFrom, if_neg (by omega)]

/-- Where it is not, the loop makes a step and counts its cost. -/
theorem runCyclesFrom_of_lt {target elapsed : Nat} (h : elapsed < target) {s t : State} (ht : step s = .next t)
    (fuel : Nat) : runCyclesFrom (fuel + 1) target elapsed s = runCyclesFrom fuel target (elapsed + t.cycles) t := by
  rw [runCyclesFrom, if_pos h, ht]

/-- A step costs from 1 to 8 cycles where a halt does. -/
theorem step_cycles_bounds {s t : State} (hw : s.wellFormed = true) (hk : s.cfg.killCycles ≤ 8)
    (h : step s = .next t) : 1 ≤ t.cycles ∧ t.cycles ≤ 8 ∧ t.totalCycles = s.totalCycles + t.cycles := by
  obtain ⟨t', ht', htotal, -, -, hhigh, hlow⟩ := stepCostIsCharged s
  obtain rfl : t' = t := Host.Outcome.next.inj (ht'.symm.trans h)
  exact ⟨hlow hw, by omega, htotal⟩

/-- The loop with `budget` cycles to go needs at most `budget` steps, for each costs at least 1, and overshoots by less
than the cost of the last. -/
theorem runCyclesFrom_stepsPast {fuel budget : Nat} (elapsed : Nat) {s : State} (hw : s.wellFormed = true)
    (hk : s.cfg.killCycles ≤ 8) (hpos : 0 < budget) (hfuel : budget ≤ fuel) :
    ∃ e u, runCyclesFrom fuel (elapsed + budget) elapsed s = .next (elapsed + e, u) ∧ StepsPast budget e s u := by
  induction fuel generalizing budget elapsed s with
  | zero => omega
  | succ fuel ih =>
    obtain ⟨t, ht⟩ := exists_step_next s
    obtain ⟨hlow, hhigh, htotal⟩ := step_cycles_bounds hw hk ht
    rw [runCyclesFrom_of_lt (by omega) ht]
    by_cases hdone : budget ≤ t.cycles
    · exact ⟨t.cycles, t, runCyclesFrom_of_le (by omega) fuel t, hdone, by omega, htotal, 0, s,
        run_succ_of_step ht 0, rfl, by omega⟩
    · obtain ⟨hwt, hcfg, -⟩ := stepKeepsStateWellFormed s t hw ht
      obtain ⟨e, u, hrun, hle, hlt, hu, k, p, hk1, hk0, hp⟩ :=
        ih (budget := budget - t.cycles) (elapsed + t.cycles) hwt (hcfg ▸ hk) (by omega) (by omega)
      have htarget : elapsed + t.cycles + (budget - t.cycles) = elapsed + budget := by omega
      rw [htarget, Nat.add_assoc] at hrun
      exact ⟨t.cycles + e, u, hrun, by omega, by omega, by omega, k + 1, p,
        (run_succ_of_step ht _).trans hk1, (run_succ_of_step ht _).trans hk0, by omega⟩

/-- Settles O52: the loop from an elapsed count of 0 (`runCyclesFrom_stepsPast`). -/
theorem runCyclesReachesItsTarget : Obligations.RunCyclesReachesItsTarget := by
  intro s target hw hk
  refine ⟨fun hle => ?_, fun hpos => ?_⟩
  · rw [runCycles, Int.toNat_of_nonpos hle]
    rfl
  · obtain ⟨n, rfl⟩ := Int.eq_ofNat_of_zero_le hpos.le
    obtain ⟨e, u, hrun, hle, hlt, hu, k, p, hk1, hk0, hp⟩ :=
      runCyclesFrom_stepsPast (budget := n) 0 hw hk (by omega) le_rfl
    rw [Nat.zero_add, Nat.zero_add] at hrun
    exact ⟨e, u, k, hrun, hk1, hu, by omega, by omega, p, hk0, by omega⟩

end Sys2Proof.Proofs
end
